-- ==== Sys2Proof/Word.lean ====
section
/-! DEFINITION. The bit-vector types the engine's registers and wire fields have (R15, R16). -/

namespace Sys2Proof

/-- One byte of a packet buffer or of the TCP stream (R18). -/
abbrev Byte := BitVec 8

/-- A 32-bit word: a command word, a header word, a stream identifier (R15, R145). -/
abbrev Word32 := BitVec 32

/-- A 64-bit word: a 44.20 fixed-point word, a binary64 bit pattern, a 64-bit field (R15, R20). -/
abbrev Word64 := BitVec 64

/-- A register-space byte address (R100). -/
abbrev RegAddr := BitVec 12

/-- A sample: the signed lanes (I, Q) (R22, R135). -/
abbrev Sample := Int × Int

/-- 10^12, the number of picoseconds in a second; `frac` stays below it (R15, R83). -/
abbrev picosPerSecond : Nat := 1000000000000

end Sys2Proof
end

