-- ==== Sys2Proof/Config.lean ====
section
/-! DEFINITION. What the spec leaves open for the whole life of a machine: constants without a body, so that no
proof can see their value (R14). -/

namespace Sys2Proof

/-- `RX_BUF_BYTES` (R14, R340, decision D40: OPEN), the size in bytes of the UDP receive buffer of the machine at
hand. DESIGN CHOICE (log 5): State.reset puts this constant into the field `rxBufBytes`. Safe: nothing can be
proved of its value. -/
opaque Config.rxBufBytes : Nat

/-- `send_ok` (R14, R264, decision D22): whether the transport accepted the whole packet of the `n`-th send whose
outcome the environment has not already decided. DESIGN CHOICE (log 4): a free value for each send. Safe: nothing
can be proved of its value. -/
opaque Config.sendOk : Nat → Bool

end Sys2Proof
end

