-- ==== Sys2Proof/Syntax.lean ====
section
/-! DEFINITION. The commands of the engine (R147), one constructor per row of the opcode table, and what the host
presents with them: the operands of the operand port (R146). -/

namespace Sys2Proof

/-- A command as its command word gives it (R145, R147). The only operand inside a command word is the register
address of format CR; the profile bit of format CP is the choice between the two `ctxEncode` constructors. -/
inductive Instr where
  /-- SOFT_RESET, OP 0x01, format C0 (R366). -/
  | softReset
  /-- REG_WRITE, OP 0x02, format CR (R360). -/
  | regWrite (addr : RegAddr)
  /-- REG_READ, OP 0x03, format CR (R362). -/
  | regRead (addr : RegAddr)
  /-- START, OP 0x04, format C0 (R364). -/
  | start
  /-- FXP_DECODE, OP 0x10, format C0 (R170). -/
  | fxpDecode
  /-- FXP_ENCODE, OP 0x11, format C0 (R174). -/
  | fxpEncode
  /-- HDR_ENCODE, OP 0x20, format C0 (R190). -/
  | hdrEncode
  /-- HDR_DECODE, OP 0x21, format C0 (R192). -/
  | hdrDecode
  /-- SID_ENCODE, OP 0x22, format C0 (R196). -/
  | sidEncode
  /-- SID_DECODE, OP 0x23, format C0 (R197). -/
  | sidDecode
  /-- CTX_ENCODE.ALT, OP 0x30, format CP with P = 0 (R214). -/
  | ctxEncodeAlt
  /-- CTX_ENCODE.STD, OP 0x30, format CP with P = 1 (R214). -/
  | ctxEncodeStd
  /-- CTX_DECODE, OP 0x31, format C0 (R212). -/
  | ctxDecode
  /-- TS_ADVANCE, OP 0x40, format C0 (R240). -/
  | tsAdvance
  /-- TS_RESET, OP 0x41, format C0 (R244). -/
  | tsReset
  /-- TS_TICK, OP 0x42, format C0 (R246). -/
  | tsTick
  /-- TX_PUSH, OP 0x50, format C0 (R260). -/
  | txPush
  /-- TX_SET_TIME, OP 0x51, format C0 (R270). -/
  | txSetTime
  /-- TX_SET_STATIC, OP 0x52, format C0 (R272). -/
  | txSetStatic
  /-- RX_UNIT, OP 0x60, format C0 (R290). -/
  | rxUnit
  /-- TCP_RX_ACCEPT, OP 0x70, format C0 (R330). -/
  | tcpRxAccept
  /-- TCP_RX_BYTES, OP 0x71, format C0 (R332). -/
  | tcpRxBytes
  /-- TCP_RX_POLL, OP 0x72, format C0 (R334). -/
  | tcpRxPoll
  /-- TCP_RX_DISCONNECT, OP 0x73, format C0 (R338). -/
  | tcpRxDisconnect
  /-- UDP_RX_DATAGRAM, OP 0x74, format C0 (R340). -/
  | udpRxDatagram
  /-- TX_LINK_DOWN, OP 0x75, format C0 (R342). -/
  | txLinkDown
  /-- TX_LINK_UP, OP 0x76, format C0 (R343). -/
  | txLinkUp
  /-- TRANSPORT_FAIL, OP 0x77, format C0 (R345). -/
  | transportFail
deriving DecidableEq, Repr

/-- One operand on the operand port (R146). Every number (`u16`, `u32`, `u64`, and `f64` as its binary64 bit
pattern) is carried as one 64-bit word, so that a number too wide for its field can be presented and refused (R106,
R214). DESIGN CHOICE, log 2. -/
inductive Operand where
  /-- A number. -/
  | word (v : Word64)
  /-- A byte sequence with its length. -/
  | bytes (b : List Byte)
  /-- A list of (I, Q) signed integer pairs. -/
  | samples (l : List Sample)
deriving DecidableEq, Repr

/-- One command as the host issues it: the 32-bit command word and its operand list (R145). -/
structure Command where
  /-- The command word. -/
  word : Word32
  /-- The operands, in the order the command's rule lists them (R146). -/
  operands : List Operand
deriving DecidableEq, Repr

end Sys2Proof
end

