-- ==== Sys2Proof/WellFormed.lean ====
section
/-! DEFINITION. Which operand lists fit a command (R146). The fields of `Instr` itself are exact: the address of
format CR is a 12-bit value, so every `Instr` is a well-formed command word; what can be ill-formed is the operand
list presented with it. -/

namespace Sys2Proof

/-- The operand types of R146 that a command's rule lists. -/
inductive OperandKind where
  /-- A number of at most 32 bits. -/
  | u32
  /-- A number of at most 64 bits. -/
  | u64
  /-- A binary64 bit pattern. -/
  | f64
  /-- A byte sequence. -/
  | bytes
  /-- A list of signed integer pairs. -/
  | samples
deriving DecidableEq, Repr

/-- Whether an operand is of a type: a number must not exceed the width its type gives it. -/
def OperandKind.admits : OperandKind → Operand → Bool
  | .u32, .word v => decide (v.toNat < 2 ^ 32)
  | .u64, .word _ => true
  | .f64, .word _ => true
  | .bytes, .bytes _ => true
  | .samples, .samples _ => true
  | _, _ => false

/-- The operand types the rule of a command lists, in its order. The field lists of CTX_ENCODE are those of R210
and R211 with the widths of R138 and R139. -/
def Instr.operandKinds : Instr → List OperandKind
  | .softReset => []
  | .regWrite _ => [.u64]
  | .regRead _ => []
  | .start => []
  | .fxpDecode => [.u64]
  | .fxpEncode => [.f64]
  | .hdrEncode => [.u32, .u32, .u32]
  | .hdrDecode => [.u32]
  | .sidEncode => [.u32]
  | .sidDecode => [.bytes]
  | .ctxEncodeAlt => [.u32, .u32, .u64, .u32, .u64, .u64, .u64, .u64, .u64, .u32, .u64]
  | .ctxEncodeStd => [.u32, .u32, .u64, .u32, .u64, .u32, .u32, .u64, .u64, .u64, .u64, .u32, .u32, .u64, .u64, .u32, .u32, .u64]
  | .ctxDecode => [.bytes]
  | .tsAdvance => []
  | .tsReset => [.u32, .u64]
  | .tsTick => []
  | .txPush => [.samples]
  | .txSetTime => [.u32, .u64]
  | .txSetStatic => [.u32]
  | .rxUnit => [.bytes, .u32]
  | .tcpRxAccept => []
  | .tcpRxBytes => [.bytes]
  | .tcpRxPoll => [.u32]
  | .tcpRxDisconnect => []
  | .udpRxDatagram => [.bytes, .u32]
  | .txLinkDown => []
  | .txLinkUp => []
  | .transportFail => []

/-- Whether the operands match the types one for one: the same count, each operand of its type. -/
def operandsMatch : List OperandKind → List Operand → Bool
  | [], [] => true
  | k :: ks, o :: os => k.admits o && operandsMatch ks os
  | _, _ => false

/-- A command and its operand list are well formed when the list is the one the command's rule names. -/
def Instr.wellFormedWith (i : Instr) (os : List Operand) : Bool :=
  operandsMatch i.operandKinds os

end Sys2Proof
end

