-- ==== Sys2Proof/Decode.lean ====
section
/-! DEFINITION. Command words to commands and back (R145, R147, R148). A word that is no command is rejected by a
name that says why. -/

namespace Sys2Proof

/-- Why a command word is no command (R148). Both reasons are refused with ILLEGAL_COMMAND. -/
inductive DecodeReject where
  /-- Bits 31:24 hold a reserved OP value. -/
  | reservedOp (op : BitVec 8)
  /-- A bit is set that the format of the OP gives as 0. -/
  | reservedBits (op : BitVec 8)
deriving DecidableEq, Repr

/-- Bits 31:24 of a command word: OP (R145). -/
def opField (w : Word32) : BitVec 8 := w.extractLsb' 24 8

/-- Bits 11:0 of a command word: ADDR of format CR (R145). -/
def addrField (w : Word32) : RegAddr := w.extractLsb' 0 12

/-- Format C0: bits 23:0 must be 0 (R145). -/
def formatC0 (w : Word32) (i : Instr) : Except DecodeReject Instr :=
  if w.extractLsb' 0 24 = 0 then .ok i else .error (.reservedBits (opField w))

/-- Format CR: bits 23:12 must be 0, bits 11:0 are ADDR (R145). -/
def formatCR (w : Word32) (i : RegAddr → Instr) : Except DecodeReject Instr :=
  if w.extractLsb' 12 12 = 0 then .ok (i (addrField w)) else .error (.reservedBits (opField w))

/-- Format CP: bits 23:1 must be 0, bit 0 is P (R145). -/
def formatCP (w : Word32) (p0 p1 : Instr) : Except DecodeReject Instr :=
  if w.extractLsb' 1 23 = 0 then .ok (if w.extractLsb' 0 1 = 0 then p0 else p1)
  else .error (.reservedBits (opField w))

/-- The command a command word stands for (R147, R148). -/
def decode (w : Word32) : Except DecodeReject Instr :=
  match (opField w).toNat with
  | 0x01 => formatC0 w .softReset
  | 0x02 => formatCR w .regWrite
  | 0x03 => formatCR w .regRead
  | 0x04 => formatC0 w .start
  | 0x10 => formatC0 w .fxpDecode
  | 0x11 => formatC0 w .fxpEncode
  | 0x20 => formatC0 w .hdrEncode
  | 0x21 => formatC0 w .hdrDecode
  | 0x22 => formatC0 w .sidEncode
  | 0x23 => formatC0 w .sidDecode
  | 0x30 => formatCP w .ctxEncodeAlt .ctxEncodeStd
  | 0x31 => formatC0 w .ctxDecode
  | 0x40 => formatC0 w .tsAdvance
  | 0x41 => formatC0 w .tsReset
  | 0x42 => formatC0 w .tsTick
  | 0x50 => formatC0 w .txPush
  | 0x51 => formatC0 w .txSetTime
  | 0x52 => formatC0 w .txSetStatic
  | 0x60 => formatC0 w .rxUnit
  | 0x70 => formatC0 w .tcpRxAccept
  | 0x71 => formatC0 w .tcpRxBytes
  | 0x72 => formatC0 w .tcpRxPoll
  | 0x73 => formatC0 w .tcpRxDisconnect
  | 0x74 => formatC0 w .udpRxDatagram
  | 0x75 => formatC0 w .txLinkDown
  | 0x76 => formatC0 w .txLinkUp
  | 0x77 => formatC0 w .transportFail
  | _ => .error (.reservedOp (opField w))

/-- The OP value of a command (R147). -/
def Instr.opcode : Instr → BitVec 8
  | .softReset => 0x01
  | .regWrite _ => 0x02
  | .regRead _ => 0x03
  | .start => 0x04
  | .fxpDecode => 0x10
  | .fxpEncode => 0x11
  | .hdrEncode => 0x20
  | .hdrDecode => 0x21
  | .sidEncode => 0x22
  | .sidDecode => 0x23
  | .ctxEncodeAlt => 0x30
  | .ctxEncodeStd => 0x30
  | .ctxDecode => 0x31
  | .tsAdvance => 0x40
  | .tsReset => 0x41
  | .tsTick => 0x42
  | .txPush => 0x50
  | .txSetTime => 0x51
  | .txSetStatic => 0x52
  | .rxUnit => 0x60
  | .tcpRxAccept => 0x70
  | .tcpRxBytes => 0x71
  | .tcpRxPoll => 0x72
  | .tcpRxDisconnect => 0x73
  | .udpRxDatagram => 0x74
  | .txLinkDown => 0x75
  | .txLinkUp => 0x76
  | .transportFail => 0x77

/-- Bits 23:0 of a command's word: ADDR in format CR, P in format CP, else 0 (R145). -/
def Instr.lowField : Instr → BitVec 24
  | .regWrite a => (0 : BitVec 12) ++ a
  | .regRead a => (0 : BitVec 12) ++ a
  | .ctxEncodeStd => 1
  | .softReset | .start | .fxpDecode | .fxpEncode | .hdrEncode | .hdrDecode | .sidEncode | .sidDecode
  | .ctxEncodeAlt | .ctxDecode | .tsAdvance | .tsReset | .tsTick | .txPush | .txSetTime | .txSetStatic
  | .rxUnit | .tcpRxAccept | .tcpRxBytes | .tcpRxPoll | .tcpRxDisconnect | .udpRxDatagram | .txLinkDown
  | .txLinkUp | .transportFail => 0

/-- The command word of a command (R145, R147). -/
def encode (i : Instr) : Word32 := i.opcode ++ i.lowField

/-- The command read from a word of `nbits` bits numbered as the opcode table numbers them. A command word is one
32-bit value on the command port, so it has no byte order of its own. -/
def decodeTableWord (nbits w : Nat) : Option Instr :=
  match decode (BitVec.ofNat 32 (w % 2 ^ nbits)) with
  | .ok i => some i
  | .error _ => none

end Sys2Proof
end

