-- ==== Sys2Proof/Machine/State.lean ====
section
/-! DEFINITION. The state of the engine: every element of 10_state.md, the ports of 30_encoding.md and the model's own
fields for what R14 takes as arguments. All of it plain data. -/

namespace Sys2Proof.Machine

open Sys2Proof

/-- `S.PHASE` (R43): CONFIG, RUN or FAULT. The value 3 is never reached and has no constructor (log 13). -/
inductive Phase where
  /-- 0: configuration registers may be written. -/
  | config
  /-- 1: stream commands are admitted. -/
  | run
  /-- 2: a fatal error has occurred. -/
  | fault
deriving DecidableEq, Repr

/-- `S.TCP_PHASE` (R85). The value 3 is never reached and has no constructor (log 13). -/
inductive TcpPhase where
  /-- 0: no client. -/
  | disconnected
  /-- 1: fewer than 4 bytes of the next unit are held. -/
  | header
  /-- 2: the header word is held and `S.TCP_NEED` bytes are wanted in all. -/
  | body
deriving DecidableEq, Repr

/-- The configuration registers (R45 to R60), each under its own name. -/
structure CfgRegs where
  /-- CFG_CTRL, 0x000 (R45). -/
  ctrl : Word32
  /-- CFG_BIT_DEPTH, 0x004 (R46). -/
  bitDepth : Word32
  /-- CFG_SPP, 0x008 (R47). -/
  spp : Word32
  /-- CFG_CTX_SIZE, 0x00C (R48). -/
  ctxSize : Word32
  /-- CFG_CTX_INTERVAL, 0x010 (R49). -/
  ctxInterval : Word32
  /-- CFG_STREAM_ID, 0x014 (R50). -/
  streamId : Word32
  /-- CFG_EXPECT_SID, 0x018 (R51). -/
  expectSid : Word32
  /-- CFG_DATA_STATIC, 0x01C (R52). -/
  dataStatic : Word32
  /-- CFG_CTX_STATIC, 0x020 (R53). -/
  ctxStatic : Word32
  /-- CFG_OUI, 0x024 (R54). -/
  oui : Word32
  /-- CFG_CLASS, 0x028 (R54). -/
  classCode : Word32
  /-- CFG_IP_ADDR, 0x02C, opaque (R55). -/
  ipAddr : Word32
  /-- CFG_PORT, 0x030, opaque (R55). -/
  port : Word32
  /-- CFG_RX_TIMEOUT, 0x034, opaque (R55). -/
  rxTimeout : Word32
  /-- CFG_CIF, 0x038 (R56). -/
  cif : Word32
  /-- CFG_STATE_EVENT, 0x03C (R56). -/
  stateEvent : Word32
  /-- CFG_REF_POINT, 0x040 (R56). -/
  refPoint : Word32
  /-- CFG_REF_LEVEL, 0x044 (R56). -/
  refLevel : Word32
  /-- CFG_GAIN, 0x048 (R56). -/
  gain : Word32
  /-- CFG_TS_CAL, 0x04C (R56). -/
  tsCal : Word32
  /-- CFG_SAMPLE_RATE, 0x050, a binary64 bit pattern (R57). -/
  sampleRate : Word64
  /-- CFG_BANDWIDTH, 0x058, a binary64 bit pattern (R58). -/
  bandwidth : Word64
  /-- CFG_IF_REF_FREQ, 0x060 (R59). -/
  ifRefFreq : Word64
  /-- CFG_RF_REF_FREQ, 0x068 (R59). -/
  rfRefFreq : Word64
  /-- CFG_IF_BAND_OFFSET, 0x070 (R59). -/
  ifBandOffset : Word64
  /-- CFG_TS_ADJ, 0x078 (R59). -/
  tsAdj : Word64
  /-- CFG_T0_FULL, 0x080 (R60). -/
  t0Full : Word32
  /-- CFG_T0_FRAC, 0x088 (R60). -/
  t0Frac : Word64
deriving DecidableEq, Repr

/-- The Timestamp record (R83): seconds and picoseconds. -/
structure Timestamp where
  /-- Integer seconds. -/
  full : Word32
  /-- Picoseconds; below 10^12 in `S.TS_REF` (R70). -/
  frac : Word64
deriving DecidableEq, Repr

/-- The two context-packet profiles (R138, R139). -/
inductive Profile where
  /-- The 72-byte alternate profile, P = 0. -/
  | alt
  /-- The 108-byte standard profile, P = 1. -/
  | std
deriving DecidableEq, Repr

/-- The fields the standard profile adds (R81). -/
structure StdFields where
  /-- Integer seconds of the packet's timestamp. -/
  tsFull : Word32
  /-- Picoseconds of the packet's timestamp, as read. -/
  tsFrac : Word64
  /-- reference_point. -/
  referencePoint : Word32
  /-- reference_level. -/
  referenceLevel : Word32
  /-- gain. -/
  gain : Word32
  /-- timestamp_adjustment. -/
  timestampAdjustment : Word64
  /-- timestamp_calibration. -/
  timestampCalibration : Word32
deriving DecidableEq, Repr

/-- The context record (R81): the raw fields, the standard profile's added fields where the profile has them, and
what decoding adds (R212). -/
structure ContextRecord where
  /-- The header word. -/
  header : Word32
  /-- The stream identifier. -/
  streamId : Word32
  /-- class_id. -/
  classId : Word64
  /-- cif. -/
  cif : Word32
  /-- The bandwidth field as a 44.20 word. -/
  bandwidthRaw : Word64
  /-- if_ref_freq. -/
  ifRefFreq : Word64
  /-- rf_ref_freq. -/
  rfRefFreq : Word64
  /-- if_band_offset. -/
  ifBandOffset : Word64
  /-- The sample-rate field as a 44.20 word. -/
  sampleRateRaw : Word64
  /-- state_and_event. -/
  stateAndEvent : Word32
  /-- payload_format. -/
  payloadFormat : Word64
  /-- The standard profile's added fields; absent in the alternate profile. -/
  std : Option StdFields
  /-- The bandwidth as a binary64 bit pattern. -/
  bandwidth : Word64
  /-- The sample rate as a binary64 bit pattern. -/
  sampleRate : Word64
  /-- Bits 36:32 of payload_format plus one (R141). -/
  bitDepth : Nat
deriving DecidableEq, Repr

/-- A decoded context packet with its profile: what `S.PENDING` holds when it is valid (R80). -/
structure Context where
  /-- The profile the unit's length chose. -/
  profile : Profile
  /-- The decoded record. -/
  record : ContextRecord
deriving DecidableEq, Repr

/-- A register with a valid bit (R73, R74, R77, R78). -/
structure Latched (n : Nat) where
  /-- The valid bit; 0 until a data packet has been accepted. -/
  valid : Bool
  /-- The value of the last accepted data packet. -/
  value : BitVec n
deriving DecidableEq, Repr

/-- The fields HDR_DECODE yields of one header word (R192). -/
structure HeaderFields where
  /-- Bits 31:28; 1 is a data packet. -/
  kind : BitVec 4
  /-- Bits 19:16. -/
  sequence : BitVec 4
  /-- Bits 15:0: the packet's length in 32-bit words (R194). -/
  wordCount : BitVec 16
  /-- The word with bits 19:0 cleared: the positioned static pattern. -/
  staticPart : Word32
  /-- Bits 31:20. -/
  static12 : BitVec 12
  /-- Whether `kind` is 1 (R131). -/
  isData : Bool
deriving DecidableEq, Repr

/-- The header fields of a packet as a record (R82): what `parse_header` reads from a unit. -/
structure PacketHeader where
  /-- Bits 31:28 of the header word; 1 is a data packet (R131). -/
  kind : BitVec 4
  /-- Bits 19:16 of the header word, read modulo 16. -/
  sequence : BitVec 4
  /-- The stream identifier; none for a unit shorter than 8 bytes, which holds none (R200). -/
  streamId : Option Word32
  /-- Bits 15:0 of the header word: the packet's length in 32-bit words (R194). -/
  wordCount : BitVec 16
  /-- Bits 31:20 of the header word. -/
  staticBits : BitVec 12
deriving DecidableEq, Repr

/-- The protocol mismatches (R310). -/
inductive ProtoCode where
  /-- PROTO_STREAM_ID. -/
  | streamId
  /-- PROTO_CTX_BIT_DEPTH. -/
  | ctxBitDepth
  /-- PROTO_CTX_LENGTH. -/
  | ctxLength
  /-- PROTO_DATA_LENGTH. -/
  | dataLength
deriving DecidableEq, Repr

/-- The fatal errors (R381). Their numbers are `FatalCode.code`. -/
inductive FatalCode where
  /-- CFG_SPP, raised by START in the sink. -/
  | cfgSpp
  /-- CFG_BIT_DEPTH, raised by START. -/
  | cfgBitDepth
  /-- CFG_CTX_SIZE, raised by START in the sink. -/
  | cfgCtxSize
  /-- CFG_CTX_INTERVAL, raised by START in the sink. -/
  | cfgCtxInterval
  /-- CFG_SAMPLE_RATE, raised by START in the sink. -/
  | cfgSampleRate
  /-- CFG_BANDWIDTH, raised by START in the sink. -/
  | cfgBandwidth
  /-- A protocol mismatch under policy fail. -/
  | proto (c : ProtoCode)
  /-- TRANSPORT_SETUP, raised by TRANSPORT_FAIL. -/
  | transportSetup
  /-- TRANSPORT_SEND, raised by TX_PUSH. -/
  | transportSend
  /-- TS_RANGE, raised by TS_ADVANCE and TX_PUSH. -/
  | tsRange
deriving DecidableEq, Repr

/-- The refusal codes of a REFUSED response (R382). Their numbers are `RefusalCode.code`. A refusal is a response of
the engine, not a stop of the model. -/
inductive RefusalCode where
  /-- ILLEGAL_COMMAND. -/
  | illegalCommand
  /-- WRONG_PHASE. -/
  | wrongPhase
  /-- WRONG_DIRECTION. -/
  | wrongDirection
  /-- BAD_ADDRESS. -/
  | badAddress
  /-- BAD_OPERAND. -/
  | badOperand
  /-- FXP_RANGE. -/
  | fxpRange
  /-- BAD_LENGTH. -/
  | badLength
  /-- IN_FAULT. -/
  | inFault
  /-- BAD_CONFIG. -/
  | badConfig
deriving DecidableEq, Repr

/-- The warning codes (R383). Their numbers are `WarnCode.code`. -/
inductive WarnCode where
  /-- A protocol mismatch under a warn policy. -/
  | proto (c : ProtoCode)
  /-- TCP_FRAMING (R336). -/
  | tcpFraming
  /-- CTX_TS_RANGE (R304). -/
  | ctxTsRange
deriving DecidableEq, Repr

/-- The event records (R314). -/
inductive Event where
  /-- GAP: the sequence gap event. -/
  | gap (index : Word64) (observed expected : BitVec 4) (unitLen : Nat)
  /-- STATIC_CHANGE: the static profile changed event. -/
  | staticChange (index : Word64) (static12 : BitVec 12)
  /-- CONTEXT: the context received event. -/
  | context (index : Word64) (profile : Profile) (record : ContextRecord)
  /-- WARN: the log entry of a warning. -/
  | warn (code : WarnCode) (unitLen : Nat)
deriving DecidableEq, Repr

/-- What a decoded data unit yields (R290): its samples and its timestamp as read. -/
structure RxData where
  /-- The decoded (I, Q) pairs. -/
  samples : List Sample
  /-- Integer seconds of the unit. -/
  full : Word32
  /-- Picoseconds of the unit. -/
  frac : Word64
deriving DecidableEq, Repr

/-- The result values of an OK response, one constructor per shape. -/
inductive Values where
  /-- No value. -/
  | unit
  /-- A u32. -/
  | u32 (v : Word32)
  /-- A u64. -/
  | u64 (v : Word64)
  /-- A binary64 bit pattern. -/
  | f64 (v : Word64)
  /-- A byte sequence. -/
  | bytes (b : List Byte)
  /-- The header fields of HDR_DECODE. -/
  | header (h : HeaderFields)
  /-- The profile and record of CTX_DECODE. -/
  | context (profile : Profile) (record : ContextRecord)
  /-- The timestamp of TS_ADVANCE. -/
  | time (t : Timestamp)
  /-- The counts of TX_PUSH. -/
  | pushed (consumed packets : Nat)
  /-- The receive response (R290); `none` stands for `data = false`, `samples = []`. -/
  | received (data : Option RxData)
deriving DecidableEq, Repr

/-- The response of a command (R150). -/
inductive Response where
  /-- OK with the command's results. -/
  | ok (v : Values)
  /-- NONE: no packet available for this step. -/
  | noPacket
  /-- REFUSED: no state changed. -/
  | refused (c : RefusalCode)
  /-- FAULT: the command raised a fatal error. -/
  | fault (c : FatalCode)
deriving DecidableEq, Repr

/-- The state of one engine instance. -/
structure State where
  /-- `S.PHASE` (R43). -/
  phase : Phase
  /-- The configuration registers (R44). -/
  cfg : CfgRegs
  /-- `ERR_CODE` bits 7:0 (R64). -/
  errCode : BitVec 8
  /-- `S.TX_SEQ` (R65). -/
  txSeq : BitVec 4
  /-- `S.CTX_SEQ` (R66). -/
  ctxSeq : BitVec 4
  /-- `S.TX_ACC_COUNT` (R67). -/
  txAccCount : Word32
  /-- `S.TX_ACC`, the bytes that hold accumulated samples (R72, log 10). -/
  txAcc : List Byte
  /-- `S.TX_STATIC` (R68). -/
  txStatic : Word32
  /-- `S.TX_PACKET_COUNT` (R69). -/
  txPacketCount : Word64
  /-- `S.TS_REF` (R70). -/
  tsRef : Timestamp
  /-- `S.TS_PSR` (R71). -/
  tsPsr : Word64
  /-- `S.LINK_UP` (R75). -/
  linkUp : Bool
  /-- `S.RX_LAST_SEQ` (R73, R77). -/
  rxLastSeq : Latched 4
  /-- `S.RX_LAST_STATIC` (R74, R78). -/
  rxLastStatic : Latched 12
  /-- `S.PENDING` (R80); `none` is valid = 0. -/
  pending : Option Context
  /-- `S.RX_OUT_INDEX` (R76). -/
  rxOutIndex : Word64
  /-- `S.TCP_IN` (R84), head first. -/
  tcpIn : List Byte
  /-- `S.TCP_PHASE` (R85). -/
  tcpPhase : TcpPhase
  /-- `S.TCP_BUF` (R86). -/
  tcpBuf : List Byte
  /-- `S.TCP_NEED` (R79, R86). -/
  tcpNeed : Word32
  /-- The command port: commands the host has issued and the engine has not yet performed, oldest first (R110, log 1). -/
  cmdq : List Command
  /-- The operand port: the operands of the command being performed (R145, R146, log 1). -/
  port : List Operand
  /-- The response of the last command (R150); none before the first command. -/
  response : Option Response
  /-- The events listed with that response, in emission order (R150, R389). -/
  events : List Event
  /-- The egress stream: the packets sent, oldest first (R100, R112, log 15). -/
  egress : List (List Byte)
  /-- The model's own: the `send_ok` draws the environment has decided, next first (R14, R264, log 4). -/
  sendDraws : List Bool
  /-- The model's own: the index of the next draw taken from the free value `Config.sendOk` (log 4). -/
  sendCount : Nat
  /-- The model's own: the parameter `RX_BUF_BYTES` (R14, R340, log 5). No command writes it. -/
  rxBufBytes : Nat
deriving DecidableEq, Repr

/-- Faults of the model: none. Every error of this engine is a response and a state change (R380, R384), so no step
stops the machine. Nobody raises this type, and so it is safe. -/
inductive Fault where
deriving DecidableEq, Repr

/-- Refusals of the model. -/
inductive Refusal where
  /-- Raised by an arm of `exec` whose instruction has no meaning yet. Safe: the model stops where the engine would
  go on. No arm of this model raises it. -/
  | notModelled (mnemonic : String)
deriving DecidableEq, Repr

/-- The reset values of the configuration registers (R89): the static patterns of R52 and R53, everything else 0. -/
def CfgRegs.reset : CfgRegs where
  ctrl := 0
  bitDepth := 0
  spp := 0
  ctxSize := 0
  ctxInterval := 0
  streamId := 0
  expectSid := 0
  dataStatic := 0x18E00000
  ctxStatic := 0x49000000
  oui := 0
  classCode := 0
  ipAddr := 0
  port := 0
  rxTimeout := 0
  cif := 0
  stateEvent := 0
  refPoint := 0
  refLevel := 0
  gain := 0
  tsCal := 0
  sampleRate := 0
  bandwidth := 0
  ifRefFreq := 0
  rfRefFreq := 0
  ifBandOffset := 0
  tsAdj := 0
  t0Full := 0
  t0Frac := 0

/-- The machine right after power-on reset (R89, R420, R421): the reset values of the spec for every element, and
for the ports and the model's own fields the values of log 1, log 4, log 5 and log 6. -/
def State.reset : State where
  phase := .config
  cfg := CfgRegs.reset
  errCode := 0
  txSeq := 0
  ctxSeq := 0
  txAccCount := 0
  txAcc := []
  txStatic := 0x18E00000
  txPacketCount := 0
  tsRef := ⟨0, 0⟩
  tsPsr := 0
  linkUp := true
  rxLastSeq := ⟨false, 0⟩
  rxLastStatic := ⟨false, 0⟩
  pending := none
  rxOutIndex := 0
  tcpIn := []
  tcpPhase := .disconnected
  tcpBuf := []
  tcpNeed := 0
  cmdq := []
  port := []
  response := none
  events := []
  egress := []
  sendDraws := []
  sendCount := 0
  rxBufBytes := Config.rxBufBytes

end Sys2Proof.Machine
end

