-- ==== Sys2Proof/Machine/Buffers.lean ====
section
/-! DEFINITION. Packet buffers (R18, R102): byte lists indexed from 0, read and written big-endian, and the signed
lanes of a sample (R135). -/

namespace Sys2Proof.Machine

open Sys2Proof

/-- The unsigned number a byte sequence denotes, the first byte most significant (R18, R102). -/
def beNat (l : List Byte) : Nat := l.foldl (fun acc b => acc * 256 + b.toNat) 0

/-- `BERead(buf, off, n)` (R18). Every caller has checked the length first (R108). -/
def beRead (buf : List Byte) (off n : Nat) : Nat := beNat ((buf.drop off).take n)

/-- The `n` bytes of a number, most significant first: what `BEWrite` stores (R18). -/
def beBytes : Nat → Nat → List Byte
  | 0, _ => []
  | n + 1, v => BitVec.ofNat 8 (v / 256 ^ n) :: beBytes n v

/-- `BEWrite(buf, off, n, v)` (R18). -/
def beWrite (buf : List Byte) (off n v : Nat) : List Byte :=
  buf.take off ++ beBytes n v ++ buf.drop (off + n)

/-- `sext` of a lane of `bd` bits: the signed integer its two's complement denotes (R17, R292). -/
def signedLane (bd v : Nat) : Int :=
  if v < 2 ^ (bd - 1) then (v : Int) else (v : Int) - 2 ^ bd

/-- A lane value modulo 2^bd: its two's complement in `bd` bits (R260). -/
def laneBits (bd : Nat) (i : Int) : Nat := (i % (2 ^ bd : Int)).toNat

/-- Whether a lane value is in the signed range of `bd` bits (R260; no bits read as one, log 12). -/
def laneInRange (bd : Nat) (i : Int) : Bool :=
  decide (-(2 ^ (bd - 1) : Int) ≤ i ∧ i ≤ (2 ^ (bd - 1) : Int) - 1)

/-- One sample in wire order: the I lane, then the Q lane, each `bd / 8` bytes (R135, R260). -/
def sampleBytes (bd : Nat) (p : Sample) : List Byte :=
  beBytes (bd / 8) (laneBits bd p.1) ++ beBytes (bd / 8) (laneBits bd p.2)

/-- Sample `j` of a data unit's payload, which begins at offset 20 (R135, R292). -/
def sampleAt (bd : Nat) (unit : List Byte) (j : Nat) : Sample :=
  let b := bd / 8
  (signedLane bd (beRead unit (20 + 2 * b * j) b), signedLane bd (beRead unit (20 + 2 * b * j + b) b))

end Sys2Proof.Machine
end

