-- ==== Sys2Proof/Machine/Float64.lean ====
section
/-! DEFINITION. The binary64 arithmetic the rules use (R20): bit patterns in, bit patterns out, each operation the
exact result rounded once to nearest, ties to even. The engine only ever computes with numbers that are not negative
(R170, R240), so the operations act on magnitudes; a sign occurs only in operands that are checked first (R174, R364).
PRESUMED (log 9): "double" is IEEE 754 binary64, as R20 says from general knowledge. -/

namespace Sys2Proof.Machine

open Sys2Proof

/-- The unit of magnitudes: a finite binary64 value is a whole number of units of 2^-1074. -/
def f64One : Nat := 2 ^ 1074

/-- The bit pattern of +∞. -/
def f64Inf : Word64 := 0x7FF0000000000000

/-- The sign bit. -/
def f64Sign (v : Word64) : Bool := v.getLsbD 63

/-- The biased exponent, bits 62:52. -/
def f64Exp (v : Word64) : Nat := v.toNat / 2 ^ 52 % 2 ^ 11

/-- The fraction field, bits 51:0. -/
def f64Frac (v : Word64) : Nat := v.toNat % 2 ^ 52

/-- Whether the value is a NaN. -/
def f64IsNaN (v : Word64) : Bool := f64Exp v == 2047 && f64Frac v != 0

/-- Whether the value is finite. -/
def f64IsFinite (v : Word64) : Bool := f64Exp v != 2047

/-- The magnitude of a finite value, in units of 2^-1074. -/
def f64Mag (v : Word64) : Nat :=
  if f64Exp v = 0 then f64Frac v else (2 ^ 52 + f64Frac v) * 2 ^ (f64Exp v - 1)

/-- Whether the value is a positive finite number (R57, R240). -/
def f64IsPositiveFinite (v : Word64) : Bool := f64IsFinite v && !f64Sign v && f64Mag v != 0

/-- `f64(n / d)` for a rational that is not negative: the nearest binary64 value, ties to even, +∞ on overflow (R20).
`e` is the exponent of the result's last place in units of 2^-1074, and `e * 2^52 + m` is the bit pattern of the
significand `m` at that exponent, also where `m` has rounded up to 2^53 or is subnormal. -/
def f64OfRatio (n d : Nat) : Word64 :=
  let num := n * f64One
  let e := (num / d).log2 - 52
  let den := d * 2 ^ e
  let q := num / den
  let r := num % den
  let m := if den < 2 * r ∨ (2 * r = den ∧ q % 2 = 1) then q + 1 else q
  BitVec.ofNat 64 (min (e * 2 ^ 52 + m) f64Inf.toNat)

/-- `f64(n)` for a natural number (R20). -/
def f64OfNat (n : Nat) : Word64 := f64OfRatio n 1

/-- `a +f b` for finite values that are not negative (R20). -/
def f64Add (a b : Word64) : Word64 := f64OfRatio (f64Mag a + f64Mag b) f64One

/-- `a -f b` for finite values with 0 ≤ b ≤ a (R20). -/
def f64Sub (a b : Word64) : Word64 := f64OfRatio (f64Mag a - f64Mag b) f64One

/-- `a *f b` for finite values that are not negative (R20). -/
def f64Mul (a b : Word64) : Word64 := f64OfRatio (f64Mag a * f64Mag b) (f64One * f64One)

/-- `a /f b` for finite values with 0 ≤ a and 0 < b (R20). -/
def f64Div (a b : Word64) : Word64 := f64OfRatio (f64Mag a) (f64Mag b)

/-- `floor` of a finite value that is not negative, which is also its `trunc` (R20). -/
def f64Floor (v : Word64) : Nat := f64Mag v / f64One

end Sys2Proof.Machine
end

