-- ==== Sys2Proof/Machine/Registers.lean ====
section
/-! DEFINITION. The configuration part of the register map (R44 to R61): addresses, widths, reserved bits, and the
named storage of each register. -/

namespace Sys2Proof.Machine

open Sys2Proof

/-- The configuration registers by name (R45 to R60). -/
inductive CfgReg where
  | ctrl | bitDepth | spp | ctxSize | ctxInterval | streamId | expectSid | dataStatic | ctxStatic | oui
  | classCode | ipAddr | port | rxTimeout | cif | stateEvent | refPoint | refLevel | gain | tsCal
  | sampleRate | bandwidth | ifRefFreq | rfRefFreq | ifBandOffset | tsAdj | t0Full | t0Frac
deriving DecidableEq, Repr

/-- The status registers by name (R62 to R79). -/
inductive StatusReg where
  | status | errCode | txSeq | ctxSeq | txAccCount | txStatic | txPacketCount | tsRefFull | tsRefFrac | tsPsr
  | rxLastSeq | rxLastStatic | rxOutIndex | tcpBufLen | tcpNeed
deriving DecidableEq, Repr

/-- Every register of the register space (R105). -/
inductive Reg where
  /-- A configuration register. -/
  | cfg (r : CfgReg)
  /-- A status register. -/
  | status (r : StatusReg)
deriving DecidableEq, Repr

/-- The base address of a configuration register (R45 to R60). -/
def CfgReg.addr : CfgReg → RegAddr
  | .ctrl => 0x000
  | .bitDepth => 0x004
  | .spp => 0x008
  | .ctxSize => 0x00C
  | .ctxInterval => 0x010
  | .streamId => 0x014
  | .expectSid => 0x018
  | .dataStatic => 0x01C
  | .ctxStatic => 0x020
  | .oui => 0x024
  | .classCode => 0x028
  | .ipAddr => 0x02C
  | .port => 0x030
  | .rxTimeout => 0x034
  | .cif => 0x038
  | .stateEvent => 0x03C
  | .refPoint => 0x040
  | .refLevel => 0x044
  | .gain => 0x048
  | .tsCal => 0x04C
  | .sampleRate => 0x050
  | .bandwidth => 0x058
  | .ifRefFreq => 0x060
  | .rfRefFreq => 0x068
  | .ifBandOffset => 0x070
  | .tsAdj => 0x078
  | .t0Full => 0x080
  | .t0Frac => 0x088

/-- The base address of a status register (R63 to R79). -/
def StatusReg.addr : StatusReg → RegAddr
  | .status => 0x100
  | .errCode => 0x104
  | .txSeq => 0x108
  | .ctxSeq => 0x10C
  | .txAccCount => 0x110
  | .txStatic => 0x114
  | .txPacketCount => 0x118
  | .tsRefFull => 0x120
  | .tsRefFrac => 0x128
  | .tsPsr => 0x130
  | .rxLastSeq => 0x138
  | .rxLastStatic => 0x13C
  | .rxOutIndex => 0x140
  | .tcpBufLen => 0x148
  | .tcpNeed => 0x14C

/-- The base address of a register. -/
def Reg.addr : Reg → RegAddr
  | .cfg r => r.addr
  | .status r => r.addr

/-- Every register, in address order (R105). -/
def allRegs : List Reg :=
  [.cfg .ctrl, .cfg .bitDepth, .cfg .spp, .cfg .ctxSize, .cfg .ctxInterval, .cfg .streamId, .cfg .expectSid,
   .cfg .dataStatic, .cfg .ctxStatic, .cfg .oui, .cfg .classCode, .cfg .ipAddr, .cfg .port, .cfg .rxTimeout,
   .cfg .cif, .cfg .stateEvent, .cfg .refPoint, .cfg .refLevel, .cfg .gain, .cfg .tsCal, .cfg .sampleRate,
   .cfg .bandwidth, .cfg .ifRefFreq, .cfg .rfRefFreq, .cfg .ifBandOffset, .cfg .tsAdj, .cfg .t0Full, .cfg .t0Frac,
   .status .status, .status .errCode, .status .txSeq, .status .ctxSeq, .status .txAccCount, .status .txStatic,
   .status .txPacketCount, .status .tsRefFull, .status .tsRefFrac, .status .tsPsr, .status .rxLastSeq,
   .status .rxLastStatic, .status .rxOutIndex, .status .tcpBufLen, .status .tcpNeed]

/-- The register whose base address this is; none for an unmapped address or one inside a 64-bit register (R61,
R106). -/
def regAt (a : RegAddr) : Option Reg := allRegs.find? (fun r => r.addr == a)

/-- Whether a configuration register is 64 bits wide (R57 to R60). -/
def CfgReg.is64 : CfgReg → Bool
  | .sampleRate | .bandwidth | .ifRefFreq | .rfRefFreq | .ifBandOffset | .tsAdj | .t0Frac => true
  | .ctrl | .bitDepth | .spp | .ctxSize | .ctxInterval | .streamId | .expectSid | .dataStatic | .ctxStatic | .oui
  | .classCode | .ipAddr | .port | .rxTimeout | .cif | .stateEvent | .refPoint | .refLevel | .gain | .tsCal
  | .t0Full => false

/-- The reserved bits of a configuration register, which read 0 and must be written 0 (R44, R45, R52 to R55). -/
def CfgReg.reservedMask : CfgReg → Word64
  | .ctrl => 0xFFFFFFC0
  | .dataStatic => 0x000FFFFF
  | .ctxStatic => 0x000FFFFF
  | .oui => 0xFF000000
  | .port => 0xFFFF0000
  | .bitDepth | .spp | .ctxSize | .ctxInterval | .streamId | .expectSid | .classCode | .ipAddr | .rxTimeout | .cif
  | .stateEvent | .refPoint | .refLevel | .gain | .tsCal | .sampleRate | .bandwidth | .ifRefFreq | .rfRefFreq
  | .ifBandOffset | .tsAdj | .t0Full | .t0Frac => 0

/-- Whether REG_WRITE accepts a value for a register (R360): within its width, no reserved bit set, and for
CFG_T0_FRAC below 10^12. -/
def CfgReg.accepts (r : CfgReg) (v : Word64) : Bool :=
  (r.is64 || decide (v.toNat < 2 ^ 32)) && (v &&& r.reservedMask) == 0
    && (r != .t0Frac || decide (v.toNat < picosPerSecond))

/-- The value of a configuration register, zero-extended to 64 bits (R106). -/
def CfgRegs.get (c : CfgRegs) : CfgReg → Word64
  | .ctrl => c.ctrl.setWidth 64
  | .bitDepth => c.bitDepth.setWidth 64
  | .spp => c.spp.setWidth 64
  | .ctxSize => c.ctxSize.setWidth 64
  | .ctxInterval => c.ctxInterval.setWidth 64
  | .streamId => c.streamId.setWidth 64
  | .expectSid => c.expectSid.setWidth 64
  | .dataStatic => c.dataStatic.setWidth 64
  | .ctxStatic => c.ctxStatic.setWidth 64
  | .oui => c.oui.setWidth 64
  | .classCode => c.classCode.setWidth 64
  | .ipAddr => c.ipAddr.setWidth 64
  | .port => c.port.setWidth 64
  | .rxTimeout => c.rxTimeout.setWidth 64
  | .cif => c.cif.setWidth 64
  | .stateEvent => c.stateEvent.setWidth 64
  | .refPoint => c.refPoint.setWidth 64
  | .refLevel => c.refLevel.setWidth 64
  | .gain => c.gain.setWidth 64
  | .tsCal => c.tsCal.setWidth 64
  | .sampleRate => c.sampleRate
  | .bandwidth => c.bandwidth
  | .ifRefFreq => c.ifRefFreq
  | .rfRefFreq => c.rfRefFreq
  | .ifBandOffset => c.ifBandOffset
  | .tsAdj => c.tsAdj
  | .t0Full => c.t0Full.setWidth 64
  | .t0Frac => c.t0Frac

/-- `register <- v (its width)` (R360). -/
def CfgRegs.set (c : CfgRegs) (r : CfgReg) (v : Word64) : CfgRegs :=
  match r with
  | .ctrl => { c with ctrl := v.setWidth 32 }
  | .bitDepth => { c with bitDepth := v.setWidth 32 }
  | .spp => { c with spp := v.setWidth 32 }
  | .ctxSize => { c with ctxSize := v.setWidth 32 }
  | .ctxInterval => { c with ctxInterval := v.setWidth 32 }
  | .streamId => { c with streamId := v.setWidth 32 }
  | .expectSid => { c with expectSid := v.setWidth 32 }
  | .dataStatic => { c with dataStatic := v.setWidth 32 }
  | .ctxStatic => { c with ctxStatic := v.setWidth 32 }
  | .oui => { c with oui := v.setWidth 32 }
  | .classCode => { c with classCode := v.setWidth 32 }
  | .ipAddr => { c with ipAddr := v.setWidth 32 }
  | .port => { c with port := v.setWidth 32 }
  | .rxTimeout => { c with rxTimeout := v.setWidth 32 }
  | .cif => { c with cif := v.setWidth 32 }
  | .stateEvent => { c with stateEvent := v.setWidth 32 }
  | .refPoint => { c with refPoint := v.setWidth 32 }
  | .refLevel => { c with refLevel := v.setWidth 32 }
  | .gain => { c with gain := v.setWidth 32 }
  | .tsCal => { c with tsCal := v.setWidth 32 }
  | .sampleRate => { c with sampleRate := v }
  | .bandwidth => { c with bandwidth := v }
  | .ifRefFreq => { c with ifRefFreq := v }
  | .rfRefFreq => { c with rfRefFreq := v }
  | .ifBandOffset => { c with ifBandOffset := v }
  | .tsAdj => { c with tsAdj := v }
  | .t0Full => { c with t0Full := v.setWidth 32 }
  | .t0Frac => { c with t0Frac := v }

end Sys2Proof.Machine
end

