-- ==== Sys2Proof/Machine/Operands.lean ====
section
/-! DEFINITION. The operand port (R146): reading a command's operands as the types its rule lists. An operand list
that does not fit has no reading, and the command is then refused with BAD_OPERAND (DESIGN CHOICE, log 2). -/

namespace Sys2Proof.Machine

open Sys2Proof

/-- A `u32` operand; none for a number of more than 32 bits. -/
def asU32 : Operand → Option Word32
  | .word v => if v.toNat < 2 ^ 32 then some (v.setWidth 32) else none
  | .bytes _ => none
  | .samples _ => none

/-- A `u64` operand. -/
def asU64 : Operand → Option Word64
  | .word v => some v
  | .bytes _ => none
  | .samples _ => none

/-- An `f64` operand, a binary64 bit pattern. -/
def asF64 : Operand → Option Word64
  | .word v => some v
  | .bytes _ => none
  | .samples _ => none

/-- A `bytes` operand. -/
def asBytes : Operand → Option (List Byte)
  | .word _ => none
  | .bytes b => some b
  | .samples _ => none

/-- A `samples` operand. -/
def asSamples : Operand → Option (List Sample)
  | .word _ => none
  | .bytes _ => none
  | .samples l => some l

/-- The one operand of a command. -/
def args1 {α : Type} (f : Operand → Option α) : List Operand → Option α
  | [a] => f a
  | _ => none

/-- The two operands of a command, in order. -/
def args2 {α β : Type} (f : Operand → Option α) (g : Operand → Option β) : List Operand → Option (α × β)
  | [a, b] =>
    match f a, g b with
    | some x, some y => some (x, y)
    | _, _ => none
  | _ => none

/-- The three operands of a command, in order. -/
def args3 {α β γ : Type} (f : Operand → Option α) (g : Operand → Option β) (h : Operand → Option γ) :
    List Operand → Option (α × β × γ)
  | [a, b, c] =>
    match f a, g b, h c with
    | some x, some y, some z => some (x, y, z)
    | _, _, _ => none
  | _ => none

/-- The operand of a type that is all zeros: a zero number, an empty sequence. -/
def zeroOperand : OperandKind → Operand
  | .u32 => .word 0
  | .u64 => .word 0
  | .f64 => .word 0
  | .bytes => .bytes []
  | .samples => .samples []

/-- The operand list of a command with every operand zero (log 3). -/
def zeroOperands (w : Word32) : List Operand :=
  match decode w with
  | .ok i => i.operandKinds.map zeroOperand
  | .error _ => []

end Sys2Proof.Machine
end

