-- ==== Sys2Proof/Machine/Flags.lean ====
section
/-! DEFINITION. The fields of CFG_CTRL (R45), the STATUS word (R63), the numbers of the error codes (R381 to R383), and
the value REG_READ gives for every register. No command sets an arithmetic flag (R87). -/

namespace Sys2Proof.Machine

open Sys2Proof

/-- CFG_CTRL.DIR: true is the source (receive) direction (R45). -/
def State.isSource (s : State) : Bool := s.cfg.ctrl.getLsbD 0

/-- CFG_CTRL.XPORT: true is TCP (R45). -/
def State.isTcp (s : State) : Bool := s.cfg.ctrl.getLsbD 1

/-- CFG_CTRL.TMODE: true is paired, false standalone (R45). -/
def State.isPaired (s : State) : Bool := s.cfg.ctrl.getLsbD 2

/-- CFG_CTRL.SID_CHECK (R45). -/
def State.sidCheck (s : State) : Bool := s.cfg.ctrl.getLsbD 5

/-- The mismatch policies (R45). -/
inductive Policy where
  /-- 0. -/
  | fail
  /-- 1. -/
  | ignore
  /-- 2. -/
  | warnAndForward
  /-- 3. -/
  | warnAndWithhold
deriving DecidableEq, Repr

/-- CFG_CTRL.POLICY, bits 4:3 (R45). -/
def State.policy (s : State) : Policy :=
  match s.cfg.ctrl.getLsbD 4, s.cfg.ctrl.getLsbD 3 with
  | false, false => .fail
  | false, true => .ignore
  | true, false => .warnAndForward
  | true, true => .warnAndWithhold

/-- The number of a phase (R43). -/
def Phase.bits : Phase → BitVec 2
  | .config => 0
  | .run => 1
  | .fault => 2

/-- The number of a TCP framing phase (R85). -/
def TcpPhase.bits : TcpPhase → BitVec 2
  | .disconnected => 0
  | .header => 1
  | .body => 2

/-- The number of a protocol mismatch (R381). -/
def ProtoCode.code : ProtoCode → BitVec 8
  | .streamId => 0x10
  | .ctxBitDepth => 0x11
  | .ctxLength => 0x12
  | .dataLength => 0x13

/-- The number of a fatal error, as ERR_CODE latches it (R381). -/
def FatalCode.code : FatalCode → BitVec 8
  | .cfgSpp => 0x01
  | .cfgBitDepth => 0x02
  | .cfgCtxSize => 0x03
  | .cfgCtxInterval => 0x04
  | .cfgSampleRate => 0x05
  | .cfgBandwidth => 0x06
  | .proto c => c.code
  | .transportSetup => 0x20
  | .transportSend => 0x21
  | .tsRange => 0x30

/-- The number of a refusal (R382). -/
def RefusalCode.code : RefusalCode → BitVec 8
  | .illegalCommand => 0x80
  | .wrongPhase => 0x81
  | .wrongDirection => 0x82
  | .badAddress => 0x83
  | .badOperand => 0x84
  | .fxpRange => 0x85
  | .badLength => 0x86
  | .inFault => 0x87
  | .badConfig => 0x88

/-- The number of a warning (R383). -/
def WarnCode.code : WarnCode → BitVec 8
  | .proto c => c.code
  | .tcpFraming => 0x14
  | .ctxTsRange => 0x15

/-- The STATUS register (R63), bit 7 first: LAST_STATIC_VALID, LAST_SEQ_VALID, PENDING_VALID, TCP_PHASE, LINK_UP,
PHASE. -/
def statusWord (s : State) : Word32 :=
  (0 : BitVec 24) ++ BitVec.ofBool s.rxLastStatic.valid ++ BitVec.ofBool s.rxLastSeq.valid
    ++ BitVec.ofBool s.pending.isSome ++ s.tcpPhase.bits ++ BitVec.ofBool s.linkUp ++ s.phase.bits

/-- The value of a status register, zero-extended to 64 bits (R63 to R79, R106). -/
def StatusReg.read (s : State) : StatusReg → Word64
  | .status => (statusWord s).setWidth 64
  | .errCode => s.errCode.setWidth 64
  | .txSeq => s.txSeq.setWidth 64
  | .ctxSeq => s.ctxSeq.setWidth 64
  | .txAccCount => s.txAccCount.setWidth 64
  | .txStatic => s.txStatic.setWidth 64
  | .txPacketCount => s.txPacketCount
  | .tsRefFull => s.tsRef.full.setWidth 64
  | .tsRefFrac => s.tsRef.frac
  | .tsPsr => s.tsPsr
  | .rxLastSeq => s.rxLastSeq.value.setWidth 64
  | .rxLastStatic => s.rxLastStatic.value.setWidth 64
  | .rxOutIndex => s.rxOutIndex
  | .tcpBufLen => (BitVec.ofNat 32 s.tcpBuf.length).setWidth 64
  | .tcpNeed => s.tcpNeed.setWidth 64

/-- The value REG_READ gives for a register (R362). -/
def readReg (s : State) : Reg → Word64
  | .cfg r => s.cfg.get r
  | .status r => r.read s

end Sys2Proof.Machine
end

