-- ==== Sys2Proof/Machine/Ops.lean ====
section
/-! DEFINITION. The shared operations: answering a command, refusing it, taking a fatal error and returning from one by
reset, admitting a command, and the named updates of the state that several commands perform. -/

namespace Sys2Proof.Machine

open Sys2Proof

/-- The end of a command (R150): exactly one response, with the events listed beside it. -/
def State.reply (s : State) (r : Response) (evs : List Event) : State :=
  { s with response := some r, events := evs }

/-- The OK response with no event. -/
def State.ok (s : State) (v : Values) : State := s.reply (.ok v) []

/-- `respond REFUSED(code)`: no state changes and no event is emitted (R386). -/
def State.refuse (s : State) (c : RefusalCode) : State := s.reply (.refused c) []

/-- `raise FATAL(code)`: taking the engine's one exception (R384). The phase becomes FAULT, the code is latched in
ERR_CODE, the response is FAULT(code) with the events emitted before the raise, and everything done before it stands. -/
def State.raiseFatal (s : State) (c : FatalCode) (evs : List Event) : State :=
  { s with phase := .fault, errCode := c.code, response := some (.fault c), events := evs }

/-- The reset procedure (R420), the one return from FAULT (R385): every element of R89 takes its reset value. Packets
already sent stay sent. What is no element of R89 stays as it is: the ports and the model's own fields (log 6). -/
def State.softReset (s : State) : State :=
  { State.reset with
    cmdq := s.cmdq
    port := s.port
    response := s.response
    egress := s.egress
    sendDraws := s.sendDraws
    sendCount := s.sendCount
    rxBufBytes := s.rxBufBytes }

/-- The rows of R149: in which phases, direction and transport a command is admitted. -/
inductive Admission where
  /-- CONFIG, RUN and FAULT; any direction. -/
  | always
  /-- CONFIG only; any direction. -/
  | configOnly
  /-- CONFIG and RUN; any direction. -/
  | beforeFault
  /-- RUN only; any direction. -/
  | running
  /-- RUN only; sink. -/
  | sink
  /-- RUN only; sink with TCP. -/
  | sinkTcp
  /-- RUN only; source. -/
  | source
  /-- RUN only; source with TCP. -/
  | sourceTcp
  /-- RUN only; source with UDP. -/
  | sourceUdp
deriving DecidableEq, Repr

/-- Whether the phase, which is not FAULT, is one of the row's phases (R149). -/
def Admission.phaseOk : Admission → Phase → Bool
  | .always, _ => true
  | .configOnly, p => p == .config
  | .beforeFault, p => p != .fault
  | .running, p => p == .run
  | .sink, p => p == .run
  | .sinkTcp, p => p == .run
  | .source, p => p == .run
  | .sourceTcp, p => p == .run
  | .sourceUdp, p => p == .run

/-- Whether the direction and the transport are the row's (R149). -/
def Admission.directionOk : Admission → State → Bool
  | .always, _ => true
  | .configOnly, _ => true
  | .beforeFault, _ => true
  | .running, _ => true
  | .sink, s => !s.isSource
  | .sinkTcp, s => !s.isSource && s.isTcp
  | .source, s => s.isSource
  | .sourceTcp, s => s.isSource && s.isTcp
  | .sourceUdp, s => s.isSource && !s.isTcp

/-- Checks (2) to (4) of R386, in that order: FAULT, the phase, direction and transport. -/
def Admission.check (a : Admission) (s : State) : Option RefusalCode :=
  if a = .always then none
  else if s.phase = .fault then some .inFault
  else if !a.phaseOk s.phase then some .wrongPhase
  else if !a.directionOk s then some .wrongDirection
  else none

/-- Perform a command that its row of R149 admits, else refuse it. -/
def whenAdmitted (a : Admission) (s t : State) : State :=
  match a.check s with
  | some c => s.refuse c
  | none => t

/-- Perform a command whose operands fit, else refuse it with BAD_OPERAND (log 2). -/
def withOperands {α : Type} (o : Option α) (s : State) (k : α → State) : State :=
  match o with
  | some a => k a
  | none => s.refuse .badOperand

/-- Setting the timestamp reference (R244, R245): the reference is the given time and no packet has passed since. -/
def State.setTime (s : State) (full : Word32) (frac : Word64) : State :=
  { s with tsRef := ⟨full, frac⟩, tsPsr := 0 }

/-- Counting one packet (R246). -/
def State.tick (s : State) : State := { s with tsPsr := s.tsPsr + 1 }

/-- Setting the reference on behalf of TS_RESET and TX_SET_TIME, which refuse a fraction of 10^12 or more (R244,
R270). -/
def State.resetTime (s : State) (full : Word32) (frac : Word64) : State :=
  if picosPerSecond ≤ frac.toNat then s.refuse .badOperand else (s.setTime full frac).ok .unit

/-- Emptying the TCP framing state into a phase: `S.TCP_IN`, `S.TCP_BUF` empty, `S.TCP_NEED` 0 (R330, R338). -/
def State.clearTcp (s : State) (p : TcpPhase) : State :=
  { s with tcpIn := [], tcpBuf := [], tcpNeed := 0, tcpPhase := p }

/-- The bit depth in bits as a number (R46). -/
def State.depth (s : State) : Nat := s.cfg.bitDepth.toNat

/-- The bytes of one sample, `2 × bit_depth_bytes` (R46). -/
def State.sampleSize (s : State) : Nat := 2 * (s.depth / 8)

/-- The draw `send_ok` of one send (R14, R264): the environment's next decided outcome, or where it has decided none
the free value of that draw (log 4). -/
def State.drawSend (s : State) : Bool × State :=
  match s.sendDraws with
  | b :: rest => (b, { s with sendDraws := rest })
  | [] => (Config.sendOk s.sendCount, { s with sendCount := s.sendCount + 1 })

/-- `transmit(p)` up to its raise (R264): whether the transport accepted all of `p`; if so `p` is appended to the egress
stream. -/
def transmit (s : State) (p : List Byte) : Bool × State :=
  match s.drawSend with
  | (true, t) => (true, { t with egress := t.egress ++ [p] })
  | (false, t) => (false, t)

/-- The egress stream as bytes, as TCP carries it: the packets back to back (R344). -/
def State.egressBytes (s : State) : List Byte := s.egress.flatten

end Sys2Proof.Machine
end

