-- ==== Sys2Proof/Machine/FixedPoint.lean ====
section
/-! DEFINITION. The Fixed-Point Codec (40_fixed_point.md): 44.20 words to and from binary64. -/

namespace Sys2Proof.Machine

open Sys2Proof

/-- The 44.20 word to binary64, in the three binary64 operations R170 writes: the integer part, the fraction divided by
2^20, and their sum. -/
def fxpToF64 (bits : Word64) : Word64 :=
  let ip := f64OfNat (bits.toNat / 2 ^ 20)
  let fp := f64Div (f64OfNat (bits.toNat % 2 ^ 20)) (f64OfNat (2 ^ 20))
  f64Add ip fp

/-- The readings of `round` (R175). -/
inductive FxpRound where
  /-- To nearest, a tie away from zero: the C library's `round`. -/
  | halfAway
  /-- Toward zero. -/
  | trunc
deriving DecidableEq, Repr

/-- `FXP_ENC_ROUND`, at the spec's default (R175, 90_conflicts.md C6, log 8). -/
def fxpEncRound : FxpRound := .halfAway

/-- The integer a magnitude in units of 2^-1074 rounds to (R175). -/
def roundMag : FxpRound → Nat → Nat
  | .halfAway, m => (2 * m + f64One) / (2 * f64One)
  | .trunc, m => m / f64One

/-- `FXP_ENCODE` (R174): none where it refuses, that is unless the value is no NaN and -0.5 < v < 2^44 - 0.5. A
negative value that is accepted is above -0.5 and encodes as 0. An infinity's magnitude reads as 2^1024 units of 1 and
so is out of range. -/
def fxpOfF64 (v : Word64) : Option Word64 :=
  if f64IsNaN v then none
  else if f64Sign v then (if 2 * f64Mag v < f64One then some 0 else none)
  else if 2 * f64Mag v < (2 ^ 45 - 1) * f64One then
    some (BitVec.ofNat 64 (roundMag fxpEncRound (f64Mag v) * 2 ^ 20))
  else none

/-- A binary64 value is encodable when FXP_ENCODE does not refuse it (R176). -/
def encodable (v : Word64) : Bool := (fxpOfF64 v).isSome

/-- Answering with a 44.20 word, or refusing a value that has none (R174). -/
def State.answerFxp (s : State) : Option Word64 → State
  | some bits => s.ok (.u64 bits)
  | none => s.refuse .fxpRange

/-- FXP_DECODE (R170). -/
def execFxpDecode (s : State) : Host.Outcome State Fault Refusal :=
  .next (whenAdmitted .beforeFault s (withOperands (args1 asU64 s.port) s fun bits => s.ok (.f64 (fxpToF64 bits))))

/-- FXP_ENCODE (R174). -/
def execFxpEncode (s : State) : Host.Outcome State Fault Refusal :=
  .next (whenAdmitted .beforeFault s (withOperands (args1 asF64 s.port) s fun v => s.answerFxp (fxpOfF64 v)))

end Sys2Proof.Machine
end

