-- ==== Sys2Proof/Machine/Header.lean ====
section
/-! DEFINITION. The Header Codec (41_header.md): the header word and the stream identifier. -/

namespace Sys2Proof.Machine

open Sys2Proof

/-- Whether a positioned static pattern leaves bits 19:0 clear (R190, R272). -/
def staticPositioned (w : Word32) : Bool := w.extractLsb' 0 20 == 0

/-- The header word of a positioned static pattern, a sequence and a word count: `static | (seq << 16) | wc` (R190).
-/
def headerWord (static seq wc : Word32) : Word32 := static ||| (seq <<< 16) ||| wc

/-- The fields of a header word (R130, R192). -/
def headerFields (w : Word32) : HeaderFields where
  kind := w.extractLsb' 28 4
  sequence := w.extractLsb' 16 4
  wordCount := w.extractLsb' 0 16
  staticPart := w &&& 0xFFF00000
  static12 := w.extractLsb' 20 12
  isData := w.extractLsb' 28 4 == 1

/-- The length in bytes of a data packet the sink builds (R136, R268). -/
def State.dataLength (s : State) : Nat := 20 + s.cfg.spp.toNat * s.sampleSize

/-- `data_header(seq)` (R198): `S.TX_STATIC`, the sequence, and the packet's length in words. -/
def State.dataHeader (s : State) : Word32 :=
  headerWord s.txStatic (s.txSeq.setWidth 32) (BitVec.ofNat 32 (s.dataLength / 4))

/-- `context_header(seq, size)` (R199): `CFG_CTX_STATIC`, the sequence, and the packet's length in words. -/
def State.contextHeader (s : State) : Word32 :=
  headerWord s.cfg.ctxStatic (s.ctxSeq.setWidth 32) (BitVec.ofNat 32 (s.cfg.ctxSize.toNat / 4))

/-- The stream identifier of a unit: the word at offset 4 where the unit holds one (R133, R200). -/
def streamIdOf (unit : List Byte) : Option Word32 :=
  if 8 ≤ unit.length then some (BitVec.ofNat 32 (beRead unit 4 4)) else none

/-- `parse_header(unit)` of a unit of at least 4 bytes (R200): HDR_DECODE of its first word, and its stream identifier. -/
def parseHeader (unit : List Byte) : PacketHeader :=
  let f := headerFields (BitVec.ofNat 32 (beRead unit 0 4))
  { kind := f.kind
    sequence := f.sequence
    streamId := streamIdOf unit
    wordCount := f.wordCount
    staticBits := f.static12 }

/-- Whether a packet is a data packet (R131, R192). -/
def PacketHeader.isData (h : PacketHeader) : Bool := h.kind == 1

/-- HDR_ENCODE (R190). -/
def execHdrEncode (s : State) : Host.Outcome State Fault Refusal :=
  .next (whenAdmitted .beforeFault s (withOperands (args3 asU32 asU32 asU32 s.port) s fun (static, seq, wc) =>
    if !staticPositioned static || 15 < seq.toNat || 0xFFFF < wc.toNat then s.refuse .badOperand
    else s.ok (.u32 (headerWord static seq wc))))

/-- HDR_DECODE (R192). -/
def execHdrDecode (s : State) : Host.Outcome State Fault Refusal :=
  .next (whenAdmitted .beforeFault s (withOperands (args1 asU32 s.port) s fun w => s.ok (.header (headerFields w))))

/-- SID_ENCODE (R196). -/
def execSidEncode (s : State) : Host.Outcome State Fault Refusal :=
  .next (whenAdmitted .beforeFault s (withOperands (args1 asU32 s.port) s fun sid => s.ok (.bytes (beBytes 4 sid.toNat))))

/-- SID_DECODE (R197). -/
def execSidDecode (s : State) : Host.Outcome State Fault Refusal :=
  .next (whenAdmitted .beforeFault s (withOperands (args1 asBytes s.port) s fun buf =>
    if buf.length ≠ 4 then s.refuse .badLength else s.ok (.u32 (BitVec.ofNat 32 (beRead buf 0 4)))))

end Sys2Proof.Machine
end

