-- ==== Sys2Proof/Machine/Context.lean ====
section
/-! DEFINITION. The Context Packet Codec (42_context.md): the two profiles' field tables, packing and unpacking by them,
and the sink's own context packet. -/

namespace Sys2Proof.Machine

open Sys2Proof

/-- The fields of a context packet by name (R81). -/
inductive CtxField where
  | header | streamId | classId | tsFull | tsFrac | cif | referencePoint | bandwidth | ifRefFreq | rfRefFreq
  | ifBandOffset | referenceLevel | gain | sampleRate | timestampAdjustment | timestampCalibration | stateAndEvent
  | payloadFormat
deriving DecidableEq, Repr

/-- One row of a profile's field table. -/
structure LayoutRow where
  /-- The byte offset. -/
  offset : Nat
  /-- The width in bytes, 4 or 8. -/
  size : Nat
  /-- The field. -/
  field : CtxField
deriving DecidableEq, Repr

/-- The alternate profile's table (R138). -/
def altLayout : List LayoutRow :=
  [⟨0, 4, .header⟩, ⟨4, 4, .streamId⟩, ⟨8, 8, .classId⟩, ⟨16, 4, .cif⟩, ⟨20, 8, .bandwidth⟩, ⟨28, 8, .ifRefFreq⟩,
   ⟨36, 8, .rfRefFreq⟩, ⟨44, 8, .ifBandOffset⟩, ⟨52, 8, .sampleRate⟩, ⟨60, 4, .stateAndEvent⟩,
   ⟨64, 8, .payloadFormat⟩]

/-- `STD_CTX_LAYOUT`, the standard profile's table, at the value R139 gives it (log 7). -/
def stdLayout : List LayoutRow :=
  [⟨0, 4, .header⟩, ⟨4, 4, .streamId⟩, ⟨8, 8, .classId⟩, ⟨16, 4, .tsFull⟩, ⟨20, 8, .tsFrac⟩, ⟨28, 4, .cif⟩,
   ⟨32, 4, .referencePoint⟩, ⟨36, 8, .bandwidth⟩, ⟨44, 8, .ifRefFreq⟩, ⟨52, 8, .rfRefFreq⟩, ⟨60, 8, .ifBandOffset⟩,
   ⟨68, 4, .referenceLevel⟩, ⟨72, 4, .gain⟩, ⟨76, 8, .sampleRate⟩, ⟨84, 8, .timestampAdjustment⟩,
   ⟨92, 4, .timestampCalibration⟩, ⟨96, 4, .stateAndEvent⟩, ⟨100, 8, .payloadFormat⟩]

/-- A profile's field table. -/
def Profile.layout : Profile → List LayoutRow
  | .alt => altLayout
  | .std => stdLayout

/-- A profile's packet size in bytes (R138, R139). -/
def Profile.size : Profile → Nat
  | .alt => 72
  | .std => 108

/-- The profile a unit's length in bytes selects (R140). -/
def profileOfLength (n : Nat) : Option Profile :=
  if n = 72 then some .alt else if n = 108 then some .std else none

/-- A field of a context unit, read at the offset and width of the profile's table (R212); 0 for a field the profile
does not have, which no caller reads. -/
def ctxRead (p : Profile) (buf : List Byte) (f : CtxField) : Nat :=
  match p.layout.find? (fun r => r.field == f) with
  | some r => beRead buf r.offset r.size
  | none => 0

/-- Bits 36:32 of payload_format plus one (R141). -/
def payloadBitDepth (pf : Word64) : Nat := (pf.extractLsb' 32 5).toNat + 1

/-- The record of a context unit of a profile (R81, R212). -/
def ctxRecord (p : Profile) (buf : List Byte) : ContextRecord :=
  let bw := BitVec.ofNat 64 (ctxRead p buf .bandwidth)
  let sr := BitVec.ofNat 64 (ctxRead p buf .sampleRate)
  let pf := BitVec.ofNat 64 (ctxRead p buf .payloadFormat)
  { header := BitVec.ofNat 32 (ctxRead p buf .header)
    streamId := BitVec.ofNat 32 (ctxRead p buf .streamId)
    classId := BitVec.ofNat 64 (ctxRead p buf .classId)
    cif := BitVec.ofNat 32 (ctxRead p buf .cif)
    bandwidthRaw := bw
    ifRefFreq := BitVec.ofNat 64 (ctxRead p buf .ifRefFreq)
    rfRefFreq := BitVec.ofNat 64 (ctxRead p buf .rfRefFreq)
    ifBandOffset := BitVec.ofNat 64 (ctxRead p buf .ifBandOffset)
    sampleRateRaw := sr
    stateAndEvent := BitVec.ofNat 32 (ctxRead p buf .stateAndEvent)
    payloadFormat := pf
    std :=
      match p with
      | .alt => none
      | .std =>
        some
          { tsFull := BitVec.ofNat 32 (ctxRead p buf .tsFull)
            tsFrac := BitVec.ofNat 64 (ctxRead p buf .tsFrac)
            referencePoint := BitVec.ofNat 32 (ctxRead p buf .referencePoint)
            referenceLevel := BitVec.ofNat 32 (ctxRead p buf .referenceLevel)
            gain := BitVec.ofNat 32 (ctxRead p buf .gain)
            timestampAdjustment := BitVec.ofNat 64 (ctxRead p buf .timestampAdjustment)
            timestampCalibration := BitVec.ofNat 32 (ctxRead p buf .timestampCalibration) }
    bandwidth := fxpToF64 bw
    sampleRate := fxpToF64 sr
    bitDepth := payloadBitDepth pf }

/-- `CTX_DECODE(buf)` (R212): none for a length other than 72 or 108. -/
def ctxDecode (buf : List Byte) : Option Context :=
  (profileOfLength buf.length).map fun p => ⟨p, ctxRecord p buf⟩

/-- Writing the values of a field table into a buffer, row by row (R214). -/
def ctxFill : List LayoutRow → List Nat → List Byte → List Byte
  | r :: rs, v :: vs, buf => ctxFill rs vs (beWrite buf r.offset r.size v)
  | _, _, buf => buf

/-- `CTX_ENCODE(P)` of values that fit (R214): a buffer of zeros with every field of the table written. -/
def ctxBytes (p : Profile) (vals : List Nat) : List Byte :=
  ctxFill p.layout vals (List.replicate p.size 0)

/-- The operands of CTX_ENCODE as numbers: none for a wrong operand count or a value wider than its field (R214). -/
def ctxOperands : List LayoutRow → List Operand → Option (List Nat)
  | [], [] => some []
  | r :: rs, .word v :: os =>
    if v.toNat < 256 ^ r.size then (ctxOperands rs os).map (v.toNat :: ·) else none
  | _, _ => none

/-- The profile of the sink's context packets: P = 0 when CFG_CTX_SIZE is 72, 1 when it is 108 (R216). DESIGN CHOICE
(log 12): R216 gives P no value for any other size, which START excludes, and the standard profile is taken there;
unsafe for a claim about such states. -/
def State.ctxProfile (s : State) : Profile := if s.cfg.ctxSize = 72 then .alt else .std

/-- `class_id` (R216, R217): the organizational identifier in bits 55:32, the class codes in bits 31:0. -/
def State.classId (s : State) : Nat := s.cfg.oui.toNat % 2 ^ 24 * 2 ^ 32 + s.cfg.classCode.toNat

/-- The value `build_context(ts)` gives a field (R216, R217, R218). FXP_ENCODE never refuses here (R176): START has
checked both values (0 where it would refuse, log 12). -/
def State.contextValue (s : State) (ts : Timestamp) : CtxField → Nat
  | .header => s.contextHeader.toNat
  | .streamId => s.cfg.streamId.toNat
  | .classId => s.classId
  | .tsFull => ts.full.toNat
  | .tsFrac => ts.frac.toNat
  | .cif => s.cfg.cif.toNat
  | .referencePoint => s.cfg.refPoint.toNat
  | .bandwidth => ((fxpOfF64 s.cfg.bandwidth).getD 0).toNat
  | .ifRefFreq => s.cfg.ifRefFreq.toNat
  | .rfRefFreq => s.cfg.rfRefFreq.toNat
  | .ifBandOffset => s.cfg.ifBandOffset.toNat
  | .referenceLevel => s.cfg.refLevel.toNat
  | .gain => s.cfg.gain.toNat
  | .sampleRate => ((fxpOfF64 s.cfg.sampleRate).getD 0).toNat
  | .timestampAdjustment => s.cfg.tsAdj.toNat
  | .timestampCalibration => s.cfg.tsCal.toNat
  | .stateAndEvent => s.cfg.stateEvent.toNat
  | .payloadFormat => (s.depth - 1) * 2 ^ 32

/-- `build_context(ts)` (R216): CTX_ENCODE of the values, in the order of the profile's table. -/
def State.buildContext (s : State) (ts : Timestamp) : List Byte :=
  ctxBytes s.ctxProfile (s.ctxProfile.layout.map fun r => s.contextValue ts r.field)

/-- CTX_ENCODE of a profile (R214), the operation the two commands share. -/
def State.ctxEncode (s : State) (p : Profile) : State :=
  match ctxOperands p.layout s.port with
  | some vals => s.ok (.bytes (ctxBytes p vals))
  | none => s.refuse .badOperand

/-- CTX_ENCODE.ALT (R214, P = 0). -/
def execCtxEncodeAlt (s : State) : Host.Outcome State Fault Refusal :=
  .next (whenAdmitted .beforeFault s (s.ctxEncode .alt))

/-- CTX_ENCODE.STD (R214, P = 1). -/
def execCtxEncodeStd (s : State) : Host.Outcome State Fault Refusal :=
  .next (whenAdmitted .beforeFault s (s.ctxEncode .std))

/-- CTX_DECODE (R212). -/
def execCtxDecode (s : State) : Host.Outcome State Fault Refusal :=
  .next (whenAdmitted .beforeFault s (withOperands (args1 asBytes s.port) s fun buf =>
    match ctxDecode buf with
    | some c => s.ok (.context c.profile c.record)
    | none => s.refuse .badLength))

end Sys2Proof.Machine
end

