-- ==== Sys2Proof/Machine/Timestamp.lean ====
section
/-! DEFINITION. The Timestamp Engine (43_timestamp.md): extrapolating the reference by packets, setting it, counting
packets. -/

namespace Sys2Proof.Machine

open Sys2Proof

/-- `elapsed`: the packets since the reference times the samples of each, divided by the sample rate, in binary64
(R240). -/
def elapsedF64 (psr : Word64) (spp : Word32) (rate : Word64) : Word64 :=
  f64Div (f64OfNat (psr.toNat * spp.toNat)) rate

/-- The split of a finite `elapsed` into whole seconds and picoseconds (R240, R248). -/
def elapsedSplit (e : Word64) : Nat × Nat :=
  let whole := f64Floor e
  let fs := f64Sub e (f64OfNat whole)
  (whole, f64Floor (f64Mul fs (f64OfNat picosPerSecond)))

/-- Adding whole seconds and picoseconds to a reference, with one carry (R83, R240). -/
def addElapsed (r : Timestamp) (whole ps : Nat) : Timestamp :=
  let f := r.frac.toNat + ps
  if picosPerSecond ≤ f then ⟨r.full + BitVec.ofNat 32 (whole + 1), BitVec.ofNat 64 (f - picosPerSecond)⟩
  else ⟨r.full + BitVec.ofNat 32 whole, BitVec.ofNat 64 f⟩

/-- The timestamp of the packet about to be sent or labelled, for a positive finite sample rate: none where `elapsed` is
infinite (R240). It is a function of the state and writes nothing (R241). -/
def State.advance (s : State) : Option Timestamp :=
  let e := elapsedF64 s.tsPsr s.cfg.spp s.cfg.sampleRate
  if f64IsFinite e then some (addElapsed s.tsRef (elapsedSplit e).1 (elapsedSplit e).2) else none

/-- Answering with a timestamp, or taking the fatal error of an infinite `elapsed` (R240). -/
def State.answerTime (s : State) : Option Timestamp → State
  | some t => s.ok (.time t)
  | none => s.raiseFatal .tsRange []

/-- TS_ADVANCE (R240, R241). -/
def execTsAdvance (s : State) : Host.Outcome State Fault Refusal :=
  .next (whenAdmitted .running s
    (if !f64IsPositiveFinite s.cfg.sampleRate then s.refuse .badConfig else s.answerTime s.advance))

/-- TS_RESET (R244). -/
def execTsReset (s : State) : Host.Outcome State Fault Refusal :=
  .next (whenAdmitted .running s (withOperands (args2 asU32 asU64 s.port) s fun (full, frac) => s.resetTime full frac))

/-- TS_TICK (R246). -/
def execTsTick (s : State) : Host.Outcome State Fault Refusal :=
  .next (whenAdmitted .running s (s.tick.ok .unit))

end Sys2Proof.Machine
end

