-- ==== Sys2Proof/Machine/TxFramer.lean ====
section
/-! DEFINITION. The Transmit Framer (44_tx_framer.md): accumulating samples, sending data and context packets, and the
host's events into the sink. -/

namespace Sys2Proof.Machine

open Sys2Proof

/-- Whether a context packet precedes the next data packet: standalone mode, and the packet count a multiple of the
context interval (R262; an interval of 0, which START excludes in this mode, is log 12). -/
def State.contextDue (s : State) : Bool :=
  !s.isPaired && s.txPacketCount.toNat % s.cfg.ctxInterval.toNat == 0

/-- The data packet of the accumulated samples (R134, R262): header, stream identifier, timestamp, payload. -/
def State.dataPacket (s : State) (ts : Timestamp) : List Byte :=
  beBytes 4 s.dataHeader.toNat ++ beBytes 4 s.cfg.streamId.toNat ++ beBytes 4 ts.full.toNat
    ++ beBytes 8 ts.frac.toNat ++ s.txAcc.take (s.cfg.spp.toNat * s.sampleSize)

/-- Counting a context packet that was sent (R262). -/
def State.contextSent (s : State) : State := { s with ctxSeq := s.ctxSeq + 1 }

/-- The context packet of `emit_packets` where one is due (R262, R263): whether the send succeeded, the packets sent, and
the state. -/
def emitContext (s : State) (ts : Timestamp) : Bool × Nat × State :=
  if s.contextDue then
    match transmit s (s.buildContext ts) with
    | (true, t) => (true, 1, t.contextSent)
    | (false, t) => (false, 0, t)
  else (true, 0, s)

/-- The counter updates after a data packet is sent (R262). The accumulator is empty again. -/
def State.dataSent (s : State) : State :=
  { s with
    txSeq := s.txSeq + 1
    txPacketCount := s.txPacketCount + 1
    tsPsr := s.tsPsr + 1
    txAccCount := 0
    txAcc := [] }

/-- The data packet of `emit_packets` and the counters (R262), after its context part: the packets sent, or the fatal
error of a send that failed, with the effects up to it (R265). -/
def emitData (ts : Timestamp) : Bool × Nat × State → Except FatalCode Nat × State
  | (false, _, t) => (.error .transportSend, t)
  | (true, k, t) =>
    match transmit t (t.dataPacket ts) with
    | (false, u) => (.error .transportSend, u)
    | (true, u) => (.ok (k + 1), u.dataSent)

/-- `emit_packets()` for a TS_ADVANCE result (R262): none is an infinite `elapsed` (R240). -/
def emitAt (s : State) : Option Timestamp → Except FatalCode Nat × State
  | none => (.error .tsRange, s)
  | some ts => emitData ts (emitContext s ts)

/-- `emit_packets()` (R262): the packets sent, or the fatal error that ended it. START has checked the sample rate, so
TS_ADVANCE's refusal cannot occur (R240; log 12). -/
def emitPackets (s : State) : Except FatalCode Nat × State := emitAt s s.advance

/-- Taking one sample into the accumulator: its lanes written at the end of the accumulated bytes (R72, R260). -/
def State.takeSample (s : State) (p : Sample) : State :=
  { s with
    txAcc := s.txAcc.take (s.txAccCount.toNat * s.sampleSize) ++ sampleBytes s.depth p
    txAccCount := s.txAccCount + 1 }

/-- What follows `emit_packets` in the loop of TX_PUSH: going on with the packets it sent, or its fatal error (R265). -/
def pushAfter (goOn : Nat → State → State) : Except FatalCode Nat × State → State
  | (.ok k, u) => goOn k u
  | (.error c, u) => u.raiseFatal c []

/-- The loop of TX_PUSH over the batch (R260): counts so far, and the answer at its end or at a fatal error (R265). -/
def pushLoop : List Sample → Nat → Nat → State → State
  | [], consumed, packets, s => s.ok (.pushed consumed packets)
  | p :: rest, consumed, packets, s =>
    let t := s.takeSample p
    if t.txAccCount = t.cfg.spp then
      pushAfter (fun k u => pushLoop rest (consumed + 1) (packets + k) u) (emitPackets t)
    else pushLoop rest (consumed + 1) packets t

/-- Whether both lanes of a sample are in the signed range of the bit depth (R260). -/
def State.laneOk (s : State) (p : Sample) : Bool := laneInRange s.depth p.1 && laneInRange s.depth p.2

/-- TX_PUSH (R260). -/
def execTxPush (s : State) : Host.Outcome State Fault Refusal :=
  .next (whenAdmitted .sink s (withOperands (args1 asSamples s.port) s fun batch =>
    if !batch.all s.laneOk then s.refuse .badOperand
    else if s.isTcp && !s.linkUp then s.ok (.pushed 0 0)
    else pushLoop batch 0 0 s))

/-- TX_SET_TIME (R270). -/
def execTxSetTime (s : State) : Host.Outcome State Fault Refusal :=
  .next (whenAdmitted .sink s (withOperands (args2 asU32 asU64 s.port) s fun (full, frac) => s.resetTime full frac))

/-- TX_SET_STATIC (R272). -/
def execTxSetStatic (s : State) : Host.Outcome State Fault Refusal :=
  .next (whenAdmitted .sink s (withOperands (args1 asU32 s.port) s fun pattern =>
    if !staticPositioned pattern then s.refuse .badOperand
    else { s with txStatic := pattern }.ok .unit))

end Sys2Proof.Machine
end

