-- ==== Sys2Proof/Machine/RxFramer.lean ====
section
/-! DEFINITION. The Receive Framer (45_rx_framer.md): classifying and decoding one transport unit. -/

namespace Sys2Proof.Machine

open Sys2Proof

/-- How the receive step on one unit ended. -/
inductive RxResult where
  /-- A fatal error: a mismatch under policy fail. -/
  | fatal (c : FatalCode)
  /-- The unit was accepted or dropped; the data unit's result where one was decoded. -/
  | done (data : Option RxData)
deriving DecidableEq, Repr

/-- The outcome of the receive step on one unit: the state, the events in emission order, and how it ended. -/
structure RxStep where
  /-- The state after the step. -/
  st : State
  /-- The events of the step. -/
  events : List Event
  /-- How it ended. -/
  result : RxResult
deriving DecidableEq, Repr

/-- Dropping a unit: no sample, no state element written (R310, R312). -/
def dropUnit (s : State) (evs : List Event) : RxStep := ⟨s, evs, .done none⟩

/-- `mismatch(code, forwardable)` (R310). `forward` is the rest of the rule, given the events emitted so far, for a
mismatch that is forwarded. -/
def mismatch (s : State) (c : ProtoCode) (forwardable : Bool) (len : Nat) (forward : List Event → RxStep) : RxStep :=
  match s.policy with
  | .fail => ⟨s, [], .fatal (.proto c)⟩
  | .ignore => dropUnit s []
  | .warnAndForward =>
    if forwardable then forward [.warn (.proto c) len] else dropUnit s [.warn (.proto c) len]
  | .warnAndWithhold => dropUnit s [.warn (.proto c) len]

/-- The GAP event of a data unit, if any (R292, R294, R295). -/
def gapEvents (s : State) (h : PacketHeader) (len : Nat) : List Event :=
  if s.rxLastSeq.valid && s.rxLastSeq.value + 1 != h.sequence then
    [.gap s.rxOutIndex h.sequence (s.rxLastSeq.value + 1) len]
  else []

/-- The STATIC_CHANGE event of a data unit, if any (R292, R316). -/
def staticEvents (s : State) (h : PacketHeader) : List Event :=
  if s.rxLastStatic.valid && s.rxLastStatic.value != h.staticBits then
    [.staticChange s.rxOutIndex h.staticBits]
  else []

/-- The CONTEXT event of a data unit, if a context is pending (R292, R300). -/
def contextEvents (s : State) : List Event :=
  match s.pending with
  | some c => [.context s.rxOutIndex c.profile c.record]
  | none => []

/-- The number of samples a data unit of a length yields for a request: whole samples after the 20-byte header, at most
as many as wanted (R292, R296; none where a sample has no bytes, log 12). -/
def State.sampleCount (s : State) (len req : Nat) : Nat := min ((len - 20) / s.sampleSize) req

/-- The part of `rx_data` after the stream-identifier check (R292). -/
def rxAccept (s : State) (unit : List Byte) (h : PacketHeader) (req : Nat) (evs : List Event) : RxStep :=
  let k := s.sampleCount unit.length req
  { st :=
      { s with
        rxLastSeq := ⟨true, h.sequence⟩
        rxLastStatic := ⟨true, h.staticBits⟩
        pending := none
        rxOutIndex := s.rxOutIndex + BitVec.ofNat 64 k }
    events := evs ++ gapEvents s h unit.length ++ staticEvents s h ++ contextEvents s
    result := .done (some
      { samples := (List.range k).map (sampleAt s.depth unit)
        full := BitVec.ofNat 32 (beRead unit 8 4)
        frac := BitVec.ofNat 64 (beRead unit 12 8) }) }

/-- `rx_data(unit, h, req)` (R292). -/
def rxData (s : State) (unit : List Byte) (h : PacketHeader) (req : Nat) : RxStep :=
  if unit.length < 20 then mismatch s .dataLength false unit.length (dropUnit s)
  else if s.sidCheck && h.streamId != some s.cfg.expectSid then
    mismatch s .streamId true unit.length (rxAccept s unit h req)
  else rxAccept s unit h req []

/-- The part of `rx_context` after the bit-depth check (R304): the context is held, and the standard profile's
timestamp sets the reference where it is a legal one (R308). -/
def ctxAccept (s : State) (c : Context) (len : Nat) (evs : List Event) : RxStep :=
  let t := { s with pending := some c }
  match c.record.std with
  | none => ⟨t, evs, .done none⟩
  | some f =>
    if f.tsFrac.toNat < picosPerSecond then ⟨t.setTime f.tsFull f.tsFrac, evs, .done none⟩
    else ⟨t, evs ++ [.warn .ctxTsRange len], .done none⟩

/-- `rx_context(unit, h)` (R304). -/
def rxContext (s : State) (unit : List Byte) : RxStep :=
  match ctxDecode unit with
  | none => mismatch s .ctxLength false unit.length (dropUnit s)
  | some c =>
    if c.record.bitDepth ≠ s.depth then mismatch s .ctxBitDepth true unit.length (ctxAccept s c unit.length)
    else ctxAccept s c unit.length []

/-- The RX_UNIT step on a unit (R290). -/
def rxStep (s : State) (unit : List Byte) (req : Nat) : RxStep :=
  if unit.length < 4 then mismatch s .dataLength false unit.length (dropUnit s)
  else
    let h := parseHeader unit
    if h.isData then rxData s unit h req else rxContext s unit

/-- Answering with the outcome of a receive step (R290, R384). -/
def RxStep.respond (r : RxStep) : State :=
  match r.result with
  | .fatal c => r.st.raiseFatal c r.events
  | .done d => r.st.reply (.ok (.received d)) r.events

/-- RX_UNIT (R290). -/
def execRxUnit (s : State) : Host.Outcome State Fault Refusal :=
  .next (whenAdmitted .source s (withOperands (args2 asBytes asU32 s.port) s fun (unit, req) =>
    (rxStep s unit req.toNat).respond))

end Sys2Proof.Machine
end

