-- ==== Sys2Proof/Machine/Transport.lean ====
section
/-! DEFINITION. The Transport Adapter (46_transport.md): TCP reframing, UDP datagrams, the egress link. -/

namespace Sys2Proof.Machine

open Sys2Proof

/-- Moving bytes from the head of `S.TCP_IN` to the end of `S.TCP_BUF` until the buffer holds `n` bytes or the queue is
empty (R334). -/
def State.fillTcp (s : State) (n : Nat) : State :=
  let k := n - s.tcpBuf.length
  { s with tcpBuf := s.tcpBuf ++ s.tcpIn.take k, tcpIn := s.tcpIn.drop k }

/-- How the framing of one unit ended (R334). -/
inductive Framed where
  /-- The bytes at hand do not complete the unit; what is held is kept. -/
  | short (st : State)
  /-- The header word's word count is 0. -/
  | badCount (st : State)
  /-- A whole unit was taken. -/
  | whole (st : State) (unit : List Byte)
deriving DecidableEq, Repr

/-- The BODY part of the framing (R334). -/
def frameBody (s : State) : Framed :=
  let t := s.fillTcp s.tcpNeed.toNat
  if t.tcpBuf.length < t.tcpNeed.toNat then .short t
  else .whole { t with tcpBuf := [], tcpNeed := 0, tcpPhase := .header } t.tcpBuf

/-- The HEADER part of the framing, where the header word is not held yet, and then the BODY part (R334). -/
def frameUnit (s : State) : Framed :=
  if s.tcpPhase = .header then
    let t := s.fillTcp 4
    if t.tcpBuf.length < 4 then .short t
    else
      let wc := beRead t.tcpBuf 2 2
      if wc = 0 then .badCount t
      else frameBody { t with tcpNeed := BitVec.ofNat 32 (4 * wc), tcpPhase := .body }
  else frameBody s

/-- The loop of TCP_RX_POLL (R334, R336): `fuel` bounds the units tried, `evs` are the events so far. Every round after
the first takes at least one byte of what is held, so the fuel of execTcpRxPoll is never used up (log 11). -/
def pollLoop : Nat → Nat → List Event → State → State
  | 0, _, evs, s => s.reply .noPacket evs
  | fuel + 1, req, evs, s =>
    match frameUnit s with
    | .short t => t.reply .noPacket evs
    | .badCount t => (t.clearTcp .disconnected).reply .noPacket (evs ++ [.warn .tcpFraming 4])
    | .whole t unit =>
      let r := rxStep t unit req
      match r.result with
      | .fatal c => r.st.raiseFatal c (evs ++ r.events)
      | .done (some d) => r.st.reply (.ok (.received (some d))) (evs ++ r.events)
      | .done none => pollLoop fuel req (evs ++ r.events) r.st

/-- The bytes of the connection the engine holds, and so more than the units a poll can take. -/
def State.tcpHeld (s : State) : Nat := s.tcpBuf.length + s.tcpIn.length

/-- One scheduling step of the TCP receive path (R334). -/
def State.tcpPoll (s : State) (req : Nat) : State :=
  if s.tcpPhase = .disconnected then s.reply .noPacket []
  else pollLoop (s.tcpHeld + 2) req [] s

/-- TCP_RX_ACCEPT (R330). -/
def execTcpRxAccept (s : State) : Host.Outcome State Fault Refusal :=
  .next (whenAdmitted .sourceTcp s
    (if s.tcpPhase ≠ .disconnected then s.refuse .wrongPhase else (s.clearTcp .header).ok .unit))

/-- TCP_RX_BYTES (R332). -/
def execTcpRxBytes (s : State) : Host.Outcome State Fault Refusal :=
  .next (whenAdmitted .sourceTcp s (withOperands (args1 asBytes s.port) s fun chunk =>
    if s.tcpPhase = .disconnected then s.refuse .wrongPhase
    else { s with tcpIn := s.tcpIn ++ chunk }.ok .unit))

/-- TCP_RX_POLL (R334). -/
def execTcpRxPoll (s : State) : Host.Outcome State Fault Refusal :=
  .next (whenAdmitted .sourceTcp s (withOperands (args1 asU32 s.port) s fun req => s.tcpPoll req.toNat))

/-- TCP_RX_DISCONNECT (R338). -/
def execTcpRxDisconnect (s : State) : Host.Outcome State Fault Refusal :=
  .next (whenAdmitted .sourceTcp s ((s.clearTcp .disconnected).ok .unit))

/-- UDP_RX_DATAGRAM (R340): the datagram cut to the receive buffer, then the RX_UNIT step. -/
def execUdpRxDatagram (s : State) : Host.Outcome State Fault Refusal :=
  .next (whenAdmitted .sourceUdp s (withOperands (args2 asBytes asU32 s.port) s fun (dg, req) =>
    (rxStep s (dg.take s.rxBufBytes) req.toNat).respond))

/-- TX_LINK_DOWN (R342). -/
def execTxLinkDown (s : State) : Host.Outcome State Fault Refusal :=
  .next (whenAdmitted .sinkTcp s ({ s with linkUp := false }.ok .unit))

/-- TX_LINK_UP (R343). -/
def execTxLinkUp (s : State) : Host.Outcome State Fault Refusal :=
  .next (whenAdmitted .sinkTcp s ({ s with linkUp := true }.ok .unit))

/-- TRANSPORT_FAIL (R345). -/
def execTransportFail (s : State) : Host.Outcome State Fault Refusal :=
  .next (whenAdmitted .beforeFault s (s.raiseFatal .transportSetup []))

end Sys2Proof.Machine
end

