-- ==== Sys2Proof/Machine/Control.lean ====
section
/-! DEFINITION. The control commands (47_control.md): register access, START, SOFT_RESET. -/

namespace Sys2Proof.Machine

open Sys2Proof

/-- `SPP_MAX` of a bit depth (R47, R364). -/
def sppMax (bd : Nat) : Nat := if bd = 8 then 131060 else 65530

/-- Whether CFG_SPP is legal for a bit depth (R47, R364). -/
def sppLegal (bd spp : Nat) : Bool :=
  decide (2 ≤ spp) && decide (spp ≤ sppMax bd) && !(bd == 8 && spp % 2 == 1)

/-- The checks of START in their order (R364, R388): the first that fails. -/
def startCheck (s : State) : Option FatalCode :=
  let bd := s.depth
  if bd ≠ 8 ∧ bd ≠ 16 then some .cfgBitDepth
  else if s.isSource then none
  else if !sppLegal bd s.cfg.spp.toNat then some .cfgSpp
  else if s.cfg.ctxSize ≠ 72 ∧ s.cfg.ctxSize ≠ 108 then some .cfgCtxSize
  else if !s.isPaired && s.cfg.ctxInterval == 0 then some .cfgCtxInterval
  else if !f64IsPositiveFinite s.cfg.sampleRate || !encodable s.cfg.sampleRate then some .cfgSampleRate
  else if !encodable s.cfg.bandwidth then some .cfgBandwidth
  else none

/-- The sink's part of a START that passes its checks: the time reference and the static pattern are loaded (R364). -/
def State.loadSink (s : State) : State :=
  { s.setTime s.cfg.t0Full s.cfg.t0Frac with txStatic := s.cfg.dataStatic }

/-- Entering RUN (R364). -/
def State.enterRun (s : State) : State :=
  let t := if s.isSource then s else s.loadSink
  { t with phase := .run }

/-- SOFT_RESET (R366). -/
def execSoftReset (s : State) : Host.Outcome State Fault Refusal :=
  .next (whenAdmitted .always s (s.softReset.ok .unit))

/-- REG_WRITE (R360). The address is checked before the operand. -/
def execRegWrite (addr : RegAddr) (s : State) : Host.Outcome State Fault Refusal :=
  .next (whenAdmitted .configOnly s
    (match regAt addr with
     | none => s.refuse .badAddress
     | some (.status _) => s.refuse .illegalCommand
     | some (.cfg r) =>
       withOperands (args1 asU64 s.port) s fun v =>
         if r.accepts v then { s with cfg := s.cfg.set r v }.ok .unit else s.refuse .badOperand))

/-- REG_READ (R362). -/
def execRegRead (addr : RegAddr) (s : State) : Host.Outcome State Fault Refusal :=
  .next (whenAdmitted .always s
    (match regAt addr with
     | none => s.refuse .badAddress
     | some r => s.ok (.u64 (readReg s r))))

/-- START (R364). -/
def execStart (s : State) : Host.Outcome State Fault Refusal :=
  .next (whenAdmitted .configOnly s
    (match startCheck s with
     | some c => s.raiseFatal c []
     | none => s.enterRun.ok .unit))

end Sys2Proof.Machine
end

