-- ==== Sys2Proof/Machine/Dispatch.lean ====
section
/-! DEFINITION. One arm per command, each one call of the command's meaning. -/

namespace Sys2Proof.Machine

open Sys2Proof

def exec (i : Instr) (s : State) : Host.Outcome State Fault Refusal :=
  match i with
  | .softReset => Sys2Proof.Machine.execSoftReset s
  | .regWrite addr => Sys2Proof.Machine.execRegWrite addr s
  | .regRead addr => Sys2Proof.Machine.execRegRead addr s
  | .start => Sys2Proof.Machine.execStart s
  | .fxpDecode => Sys2Proof.Machine.execFxpDecode s
  | .fxpEncode => Sys2Proof.Machine.execFxpEncode s
  | .hdrEncode => Sys2Proof.Machine.execHdrEncode s
  | .hdrDecode => Sys2Proof.Machine.execHdrDecode s
  | .sidEncode => Sys2Proof.Machine.execSidEncode s
  | .sidDecode => Sys2Proof.Machine.execSidDecode s
  | .ctxEncodeAlt => Sys2Proof.Machine.execCtxEncodeAlt s
  | .ctxEncodeStd => Sys2Proof.Machine.execCtxEncodeStd s
  | .ctxDecode => Sys2Proof.Machine.execCtxDecode s
  | .tsAdvance => Sys2Proof.Machine.execTsAdvance s
  | .tsReset => Sys2Proof.Machine.execTsReset s
  | .tsTick => Sys2Proof.Machine.execTsTick s
  | .txPush => Sys2Proof.Machine.execTxPush s
  | .txSetTime => Sys2Proof.Machine.execTxSetTime s
  | .txSetStatic => Sys2Proof.Machine.execTxSetStatic s
  | .rxUnit => Sys2Proof.Machine.execRxUnit s
  | .tcpRxAccept => Sys2Proof.Machine.execTcpRxAccept s
  | .tcpRxBytes => Sys2Proof.Machine.execTcpRxBytes s
  | .tcpRxPoll => Sys2Proof.Machine.execTcpRxPoll s
  | .tcpRxDisconnect => Sys2Proof.Machine.execTcpRxDisconnect s
  | .udpRxDatagram => Sys2Proof.Machine.execUdpRxDatagram s
  | .txLinkDown => Sys2Proof.Machine.execTxLinkDown s
  | .txLinkUp => Sys2Proof.Machine.execTxLinkUp s
  | .transportFail => Sys2Proof.Machine.execTransportFail s

end Sys2Proof.Machine
end

