-- ==== Sys2Proof/Machine/Step.lean ====
section
/-! DEFINITION. One step: the oldest command of the command port is taken, decoded and performed (R110). -/

namespace Sys2Proof.Machine

open Sys2Proof

/-- Taking the oldest command off the command port, its operands onto the operand port (R110, R145). -/
def State.take (s : State) (c : Command) (rest : List Command) : State :=
  { s with cmdq := rest, port := c.operands }

/-- One step of the engine. With no command issued it holds its state (R397, R421). A word that is no command is
refused with ILLEGAL_COMMAND, the first check of R386. -/
def step (s : State) : Host.Outcome State Fault Refusal :=
  match s.cmdq with
  | [] => .next s
  | c :: rest =>
    match decode c.word with
    | .ok i => exec i (s.take c rest)
    | .error _ => .next ((s.take c rest).refuse .illegalCommand)

/-- The state with one command at the head of the command port: the word of `nbits` bits `w`, with every operand its
rule lists zero or empty (log 3). -/
def State.withFetchWord (s : State) (nbits w : Nat) : State :=
  let word : Word32 := BitVec.ofNat 32 (w % 2 ^ nbits)
  { s with cmdq := ⟨word, zeroOperands word⟩ :: s.cmdq.tail }

end Sys2Proof.Machine
end

