-- ==== Sys2Proof/Machine/Assembler.lean ====
section
/-! DEFINITION. The assembler syntax (R151) and the pseudo-commands (R152): a line of text to the commands it stands for.
The engine itself never reads text: this is the notation in which the spec writes commands (log 22). -/

namespace Sys2Proof.Machine

open Sys2Proof

/-- The mnemonics of the commands whose word has no operand of its own (R147, R151). -/
def plainMnemonics : List (String × Instr) :=
  [("SOFT_RESET", .softReset), ("START", .start), ("FXP_DECODE", .fxpDecode), ("FXP_ENCODE", .fxpEncode),
   ("HDR_ENCODE", .hdrEncode), ("HDR_DECODE", .hdrDecode), ("SID_ENCODE", .sidEncode), ("SID_DECODE", .sidDecode),
   ("CTX_ENCODE.ALT", .ctxEncodeAlt), ("CTX_ENCODE.STD", .ctxEncodeStd), ("CTX_DECODE", .ctxDecode),
   ("TS_ADVANCE", .tsAdvance), ("TS_RESET", .tsReset), ("TS_TICK", .tsTick), ("TX_PUSH", .txPush),
   ("TX_SET_TIME", .txSetTime), ("TX_SET_STATIC", .txSetStatic), ("RX_UNIT", .rxUnit),
   ("TCP_RX_ACCEPT", .tcpRxAccept), ("TCP_RX_BYTES", .tcpRxBytes), ("TCP_RX_POLL", .tcpRxPoll),
   ("TCP_RX_DISCONNECT", .tcpRxDisconnect), ("UDP_RX_DATAGRAM", .udpRxDatagram), ("TX_LINK_DOWN", .txLinkDown),
   ("TX_LINK_UP", .txLinkUp), ("TRANSPORT_FAIL", .transportFail)]

/-- The register names of 10_state.md (R151). -/
def registerNames : List (String × Reg) :=
  [("CFG_CTRL", .cfg .ctrl), ("CFG_BIT_DEPTH", .cfg .bitDepth), ("CFG_SPP", .cfg .spp), ("CFG_CTX_SIZE", .cfg .ctxSize),
   ("CFG_CTX_INTERVAL", .cfg .ctxInterval), ("CFG_STREAM_ID", .cfg .streamId), ("CFG_EXPECT_SID", .cfg .expectSid),
   ("CFG_DATA_STATIC", .cfg .dataStatic), ("CFG_CTX_STATIC", .cfg .ctxStatic), ("CFG_OUI", .cfg .oui),
   ("CFG_CLASS", .cfg .classCode), ("CFG_IP_ADDR", .cfg .ipAddr), ("CFG_PORT", .cfg .port),
   ("CFG_RX_TIMEOUT", .cfg .rxTimeout), ("CFG_CIF", .cfg .cif), ("CFG_STATE_EVENT", .cfg .stateEvent),
   ("CFG_REF_POINT", .cfg .refPoint), ("CFG_REF_LEVEL", .cfg .refLevel), ("CFG_GAIN", .cfg .gain),
   ("CFG_TS_CAL", .cfg .tsCal), ("CFG_SAMPLE_RATE", .cfg .sampleRate), ("CFG_BANDWIDTH", .cfg .bandwidth),
   ("CFG_IF_REF_FREQ", .cfg .ifRefFreq), ("CFG_RF_REF_FREQ", .cfg .rfRefFreq),
   ("CFG_IF_BAND_OFFSET", .cfg .ifBandOffset), ("CFG_TS_ADJ", .cfg .tsAdj), ("CFG_T0_FULL", .cfg .t0Full),
   ("CFG_T0_FRAC", .cfg .t0Frac), ("STATUS", .status .status), ("ERR_CODE", .status .errCode),
   ("TX_SEQ", .status .txSeq), ("CTX_SEQ", .status .ctxSeq), ("TX_ACC_COUNT", .status .txAccCount),
   ("TX_STATIC", .status .txStatic), ("TX_PACKET_COUNT", .status .txPacketCount),
   ("TS_REF_FULL", .status .tsRefFull), ("TS_REF_FRAC", .status .tsRefFrac), ("TS_PSR", .status .tsPsr),
   ("RX_LAST_SEQ", .status .rxLastSeq), ("RX_LAST_STATIC", .status .rxLastStatic),
   ("RX_OUT_INDEX", .status .rxOutIndex), ("TCP_BUF_LEN", .status .tcpBufLen), ("TCP_NEED", .status .tcpNeed)]

/-- The entry of a name in a table. -/
def lookupName {α : Type} (t : List (String × α)) (name : List Char) : Option α :=
  (t.find? fun e => e.1.toList == name).map (·.2)

/-- The text before a `;`, which starts a comment. -/
def stripComment (l : List Char) : List Char := l.takeWhile (· != ';')

/-- The text without blanks at its ends. -/
def trimBlanks (l : List Char) : List Char :=
  let f := fun (x : List Char) => x.dropWhile fun c => c == ' ' || c == '\t'
  (f (f l).reverse).reverse

/-- Whether a character opens a bracket, and whether it closes one. -/
def bracketDepth (depth : Nat) (c : Char) : Nat :=
  if c == '(' || c == '[' then depth + 1 else if c == ')' || c == ']' then depth - 1 else depth

/-- The text cut at every separator that stands in no bracket. -/
def splitOutside (sep : Char) : Nat → List Char → List Char → List (List Char)
  | _, cur, [] => [trimBlanks cur.reverse]
  | depth, cur, c :: rest =>
    if c == sep && depth == 0 then trimBlanks cur.reverse :: splitOutside sep depth [] rest
    else splitOutside sep (bracketDepth depth c) (c :: cur) rest

/-- The operands of a line; none for an empty text. -/
def splitOperands (l : List Char) : List (List Char) :=
  if trimBlanks l == [] then [] else splitOutside ',' 0 [] l

/-- The value of a digit in a base up to 16. -/
def digitValue (base : Nat) (c : Char) : Option Nat :=
  let v :=
    if '0' ≤ c ∧ c ≤ '9' then c.toNat - 48
    else if 'a' ≤ c ∧ c ≤ 'f' then c.toNat - 87
    else if 'A' ≤ c ∧ c ≤ 'F' then c.toNat - 55
    else 16
  if v < base then some v else none

/-- The digits of a number, most significant first. -/
def parseDigits (base : Nat) : Nat → List Char → Option Nat
  | acc, [] => some acc
  | acc, c :: rest =>
    match digitValue base c with
    | some v => parseDigits base (acc * base + v) rest
    | none => none

/-- A number, decimal or `0x` hexadecimal (R151). -/
def parseNat : List Char → Option Nat
  | '0' :: 'x' :: c :: rest => parseDigits 16 0 (c :: rest)
  | c :: rest => parseDigits 10 0 (c :: rest)
  | [] => none

/-- A signed number. -/
def parseInt : List Char → Option Int
  | '-' :: rest => (parseNat rest).map fun n => -(n : Int)
  | l => (parseNat l).map fun n => (n : Int)

/-- The text between a first and a last character. -/
def between (first last : Char) (l : List Char) : Option (List Char) :=
  match l with
  | c :: rest => if c == first && rest.getLast? == some last then some rest.dropLast else none
  | [] => none

/-- One sample, `(i, q)`. -/
def parseSample (l : List Char) : Option Sample :=
  match between '(' ')' l with
  | none => none
  | some inner =>
    match splitOutside ',' 0 [] inner with
    | [a, b] =>
      match parseInt a, parseInt b with
      | some i, some q => some (i, q)
      | _, _ => none
    | _ => none

/-- One byte, a hexadecimal pair. -/
def parseByte : List Char → Option Byte
  | [a, b] =>
    match digitValue 16 a, digitValue 16 b with
    | some x, some y => some (BitVec.ofNat 8 (16 * x + y))
    | _, _ => none
  | _ => none

/-- One operand (R151): `bytes(hh hh ...)`, `[(i, q), ...]` or a number. -/
def parseOperand (l : List Char) : Option Operand :=
  match l with
  | 'b' :: 'y' :: 't' :: 'e' :: 's' :: rest =>
    match between '(' ')' rest with
    | none => none
    | some inner =>
      (((splitOutside ' ' 0 [] inner).filter (· != [])).mapM parseByte).map Operand.bytes
  | '[' :: _ =>
    match between '[' ']' l with
    | none => none
    | some inner => ((splitOperands inner).mapM parseSample).map Operand.samples
  | _ =>
    match parseNat l with
    | some n => if n < 2 ^ 64 then some (.word (BitVec.ofNat 64 n)) else none
    | none => none

/-- The register operand of a CR command: a register name or an address literal (R151). -/
def parseRegister (l : List Char) : Option RegAddr :=
  match lookupName registerNames l with
  | some r => some r.addr
  | none =>
    match parseNat l with
    | some n => if n < 2 ^ 12 then some (BitVec.ofNat 12 n) else none
    | none => none

/-- A command of operands that parse. -/
def commandOf (i : Instr) (os : List (List Char)) : Option Command :=
  (os.mapM parseOperand).map fun l => ⟨encode i, l⟩

/-- A CR command: the register first, then the other operands. -/
def registerCommand (i : RegAddr → Instr) (os : List (List Char)) : Option Command :=
  match os with
  | r :: rest =>
    match parseRegister r with
    | some a => commandOf (i a) rest
    | none => none
  | [] => none

/-- `name=value` of CONFIGURE as the REG_WRITE it stands for (R152). -/
def configureCommand (l : List Char) : Option Command :=
  match splitOutside '=' 0 [] l with
  | [name, value] => registerCommand .regWrite [name, value]
  | _ => none

/-- The commands CONFIGURE expands to: one REG_WRITE for each pair, in the written order (R152). -/
def configure (os : List (List Char)) : Option (List Command) := os.mapM configureCommand

/-- The commands TS_NEXT expands to (R152). -/
def tsNext : List Command := [⟨encode .tsAdvance, []⟩, ⟨encode .tsTick, []⟩]

/-- The commands a line stands for: none for a blank line, one for a command, its expansion for a pseudo-command; no
reading where the line has not the syntax of R151. -/
def assemble (line : List Char) : Option (List Command) :=
  let l := trimBlanks (stripComment line)
  let name := l.takeWhile (· != ' ')
  let os := splitOperands (l.dropWhile (· != ' '))
  if l == [] then some []
  else if name == "CONFIGURE".toList then configure os
  else if name == "TS_NEXT".toList then (if os == [] then some tsNext else none)
  else if name == "REG_WRITE".toList then (registerCommand .regWrite os).map ([·])
  else if name == "REG_READ".toList then (registerCommand .regRead os).map ([·])
  else
    match lookupName plainMnemonics name with
    | some i => (commandOf i os).map ([·])
    | none => none

end Sys2Proof.Machine
end

