-- ==== Sys2Proof/Safety.lean ====
section
/-! DEFINITION. The terms in which statements speak of the engine: the invariants of 10_state.md, and the tables of the
spec written out again beside the model, so that a statement can hold the model against them. -/

namespace Sys2Proof.Machine

open Sys2Proof

/-! ### Tables of the spec -/

/-- Match and mask of every row of the opcode table (R147). -/
def opcodeRows : List (Word32 × Word32) :=
  [(0x01000000, 0xFFFFFFFF), (0x02000000, 0xFFFFF000), (0x03000000, 0xFFFFF000), (0x04000000, 0xFFFFFFFF),
   (0x10000000, 0xFFFFFFFF), (0x11000000, 0xFFFFFFFF), (0x20000000, 0xFFFFFFFF), (0x21000000, 0xFFFFFFFF),
   (0x22000000, 0xFFFFFFFF), (0x23000000, 0xFFFFFFFF), (0x30000000, 0xFFFFFFFF), (0x30000001, 0xFFFFFFFF),
   (0x31000000, 0xFFFFFFFF), (0x40000000, 0xFFFFFFFF), (0x41000000, 0xFFFFFFFF), (0x42000000, 0xFFFFFFFF),
   (0x50000000, 0xFFFFFFFF), (0x51000000, 0xFFFFFFFF), (0x52000000, 0xFFFFFFFF), (0x60000000, 0xFFFFFFFF),
   (0x70000000, 0xFFFFFFFF), (0x71000000, 0xFFFFFFFF), (0x72000000, 0xFFFFFFFF), (0x73000000, 0xFFFFFFFF),
   (0x74000000, 0xFFFFFFFF), (0x75000000, 0xFFFFFFFF), (0x76000000, 0xFFFFFFFF), (0x77000000, 0xFFFFFFFF)]

/-- Whether a word is one of the table's command words. -/
def isCommandWord (w : Word32) : Prop := ∃ row ∈ opcodeRows, w &&& row.2 = row.1

/-- The phases that accept a command (R149). -/
def Instr.phases : Instr → List Phase
  | .softReset | .regRead _ => [.config, .run, .fault]
  | .regWrite _ | .start => [.config]
  | .fxpDecode | .fxpEncode | .hdrEncode | .hdrDecode | .sidEncode | .sidDecode | .ctxEncodeAlt | .ctxEncodeStd
  | .ctxDecode | .transportFail => [.config, .run]
  | .tsAdvance | .tsReset | .tsTick | .txPush | .txSetTime | .txSetStatic | .rxUnit | .tcpRxAccept | .tcpRxBytes
  | .tcpRxPoll | .tcpRxDisconnect | .udpRxDatagram | .txLinkDown | .txLinkUp => [.run]

/-- Whether the direction and transport of a configuration accept a command (R149). -/
def Instr.fits (i : Instr) (source tcp : Bool) : Bool :=
  match i with
  | .txPush | .txSetTime | .txSetStatic => !source
  | .txLinkDown | .txLinkUp => !source && tcp
  | .rxUnit => source
  | .tcpRxAccept | .tcpRxBytes | .tcpRxPoll | .tcpRxDisconnect => source && tcp
  | .udpRxDatagram => source && !tcp
  | .softReset | .regRead _ | .regWrite _ | .start | .fxpDecode | .fxpEncode | .hdrEncode | .hdrDecode | .sidEncode
  | .sidDecode | .ctxEncodeAlt | .ctxEncodeStd | .ctxDecode | .transportFail | .tsAdvance | .tsReset
  | .tsTick => true

/-- The register map (R45 to R79, R105): each base address with the value its register reads as. -/
def registerMap : List (RegAddr × (State → Word64)) :=
  [(0x000, fun s => s.cfg.ctrl.setWidth 64), (0x004, fun s => s.cfg.bitDepth.setWidth 64),
   (0x008, fun s => s.cfg.spp.setWidth 64), (0x00C, fun s => s.cfg.ctxSize.setWidth 64),
   (0x010, fun s => s.cfg.ctxInterval.setWidth 64), (0x014, fun s => s.cfg.streamId.setWidth 64),
   (0x018, fun s => s.cfg.expectSid.setWidth 64), (0x01C, fun s => s.cfg.dataStatic.setWidth 64),
   (0x020, fun s => s.cfg.ctxStatic.setWidth 64), (0x024, fun s => s.cfg.oui.setWidth 64),
   (0x028, fun s => s.cfg.classCode.setWidth 64), (0x02C, fun s => s.cfg.ipAddr.setWidth 64),
   (0x030, fun s => s.cfg.port.setWidth 64), (0x034, fun s => s.cfg.rxTimeout.setWidth 64),
   (0x038, fun s => s.cfg.cif.setWidth 64), (0x03C, fun s => s.cfg.stateEvent.setWidth 64),
   (0x040, fun s => s.cfg.refPoint.setWidth 64), (0x044, fun s => s.cfg.refLevel.setWidth 64),
   (0x048, fun s => s.cfg.gain.setWidth 64), (0x04C, fun s => s.cfg.tsCal.setWidth 64),
   (0x050, fun s => s.cfg.sampleRate), (0x058, fun s => s.cfg.bandwidth), (0x060, fun s => s.cfg.ifRefFreq),
   (0x068, fun s => s.cfg.rfRefFreq), (0x070, fun s => s.cfg.ifBandOffset), (0x078, fun s => s.cfg.tsAdj),
   (0x080, fun s => s.cfg.t0Full.setWidth 64), (0x088, fun s => s.cfg.t0Frac),
   (0x100, fun s => (statusWord s).setWidth 64), (0x104, fun s => s.errCode.setWidth 64),
   (0x108, fun s => s.txSeq.setWidth 64), (0x10C, fun s => s.ctxSeq.setWidth 64),
   (0x110, fun s => s.txAccCount.setWidth 64), (0x114, fun s => s.txStatic.setWidth 64),
   (0x118, fun s => s.txPacketCount), (0x120, fun s => s.tsRef.full.setWidth 64), (0x128, fun s => s.tsRef.frac),
   (0x130, fun s => s.tsPsr), (0x138, fun s => s.rxLastSeq.value.setWidth 64),
   (0x13C, fun s => s.rxLastStatic.value.setWidth 64), (0x140, fun s => s.rxOutIndex),
   (0x148, fun s => (BitVec.ofNat 32 s.tcpBuf.length).setWidth 64), (0x14C, fun s => s.tcpNeed.setWidth 64)]

/-- Width in bits and reserved bits of every configuration register by its address (R44 to R60). -/
def writableMap : List (RegAddr × Nat × Word64) :=
  [(0x000, 32, 0xFFFFFFC0), (0x004, 32, 0), (0x008, 32, 0), (0x00C, 32, 0), (0x010, 32, 0), (0x014, 32, 0),
   (0x018, 32, 0), (0x01C, 32, 0x000FFFFF), (0x020, 32, 0x000FFFFF), (0x024, 32, 0xFF000000), (0x028, 32, 0),
   (0x02C, 32, 0), (0x030, 32, 0xFFFF0000), (0x034, 32, 0), (0x038, 32, 0), (0x03C, 32, 0), (0x040, 32, 0),
   (0x044, 32, 0), (0x048, 32, 0), (0x04C, 32, 0), (0x050, 64, 0), (0x058, 64, 0), (0x060, 64, 0), (0x068, 64, 0),
   (0x070, 64, 0), (0x078, 64, 0), (0x080, 32, 0), (0x088, 64, 0)]

/-- Whether REG_WRITE may store a value in the register of a row (R360): it is within the register's width, sets no
reserved bit, and at 0x088, CFG_T0_FRAC, is below 10^12. -/
def LegalWrite (row : RegAddr × Nat × Word64) (v : Word64) : Prop :=
  v.toNat < 2 ^ row.2.1 ∧ v &&& row.2.2 = 0 ∧ (row.1 = 0x088 → v.toNat < picosPerSecond)

/-- Offsets and widths of the alternate profile's fields in table order (R138). -/
def altFields : List (Nat × Nat) :=
  [(0, 4), (4, 4), (8, 8), (16, 4), (20, 8), (28, 8), (36, 8), (44, 8), (52, 8), (60, 4), (64, 8)]

/-- Offsets and widths of the standard profile's fields in table order (R139). -/
def stdFields : List (Nat × Nat) :=
  [(0, 4), (4, 4), (8, 8), (16, 4), (20, 8), (28, 4), (32, 4), (36, 8), (44, 8), (52, 8), (60, 8), (68, 4), (72, 4),
   (76, 8), (84, 8), (92, 4), (96, 4), (100, 8)]

/-- The kind of a unit of at least 4 bytes: the top nibble of its first byte (R130, R131). -/
def unitKind (unit : List Byte) : Nat := beRead unit 0 4 / 2 ^ 28

/-- The mismatch a unit meets first, if any, in the order of R388: length, stream identifier, context bit depth. -/
def unitMismatch (s : State) (unit : List Byte) : Option ProtoCode :=
  if unit.length < 4 then some .dataLength
  else if unitKind unit = 1 then
    if unit.length < 20 then some .dataLength
    else if s.cfg.ctrl.getLsbD 5 ∧ beRead unit 4 4 ≠ s.cfg.expectSid.toNat then some .streamId
    else none
  else if unit.length ≠ 72 ∧ unit.length ≠ 108 then some .ctxLength
  else if beRead unit (unit.length - 8) 8 / 2 ^ 32 % 32 + 1 ≠ s.cfg.bitDepth.toNat then some .ctxBitDepth
  else none

/-- The raw fields of a record in the table order of its profile (R210, R211). -/
def ContextRecord.rawFields (r : ContextRecord) : List Nat :=
  match r.std with
  | none =>
    [r.header.toNat, r.streamId.toNat, r.classId.toNat, r.cif.toNat, r.bandwidthRaw.toNat, r.ifRefFreq.toNat,
     r.rfRefFreq.toNat, r.ifBandOffset.toNat, r.sampleRateRaw.toNat, r.stateAndEvent.toNat, r.payloadFormat.toNat]
  | some f =>
    [r.header.toNat, r.streamId.toNat, r.classId.toNat, f.tsFull.toNat, f.tsFrac.toNat, r.cif.toNat,
     f.referencePoint.toNat, r.bandwidthRaw.toNat, r.ifRefFreq.toNat, r.rfRefFreq.toNat, r.ifBandOffset.toNat,
     f.referenceLevel.toNat, f.gain.toNat, r.sampleRateRaw.toNat, f.timestampAdjustment.toNat,
     f.timestampCalibration.toNat, r.stateAndEvent.toNat, r.payloadFormat.toNat]

/-- A binary64 value is encodable (R176): no NaN, and -0.5 < v < 2^44 - 0.5. -/
def EncodableValue (v : Word64) : Prop :=
  f64IsNaN v = false
    ∧ if f64Sign v then 2 * f64Mag v < f64One else 2 * f64Mag v < (2 ^ 45 - 1) * f64One

/-! ### Answers -/

/-- The state with nothing changed but the answer: a response and the events listed with it (R150). -/
def State.answered (s : State) (r : Response) (evs : List Event) : State :=
  { s with response := some r, events := evs }

/-- The state a fatal error leaves (R384): FAULT, the code latched, the response FAULT(code) with the events emitted
before it, and nothing else changed. -/
def State.faulted (s : State) (c : FatalCode) (evs : List Event) : State :=
  { s with phase := .fault, errCode := c.code, response := some (.fault c), events := evs }

/-- The state and answer of an accepted data unit (R292): the sequence and the static bits are recorded, the pending
context is consumed, the index moves by the samples returned. `evs` are the events emitted before, a forwarded
mismatch's warning. -/
def State.afterData (s : State) (unit : List Byte) (req : Nat) (evs : List Event) : State :=
  let word := beRead unit 0 4
  let seq : BitVec 4 := BitVec.ofNat 4 (word / 2 ^ 16)
  let static12 : BitVec 12 := BitVec.ofNat 12 (word / 2 ^ 20)
  let expected : BitVec 4 := s.rxLastSeq.value + 1
  let k := min ((unit.length - 20) / (2 * (s.cfg.bitDepth.toNat / 8))) req
  let gap := if s.rxLastSeq.valid ∧ expected ≠ seq then [Event.gap s.rxOutIndex seq expected unit.length] else []
  let change :=
    if s.rxLastStatic.valid ∧ s.rxLastStatic.value ≠ static12 then [Event.staticChange s.rxOutIndex static12] else []
  let ctx := s.pending.toList.map fun c => Event.context s.rxOutIndex c.profile c.record
  { s with
    rxLastSeq := ⟨true, seq⟩
    rxLastStatic := ⟨true, static12⟩
    pending := none
    rxOutIndex := s.rxOutIndex + BitVec.ofNat 64 k
    response := some (.ok (.received (some
      ⟨(List.range k).map (sampleAt s.cfg.bitDepth.toNat unit), BitVec.ofNat 32 (beRead unit 8 4),
        BitVec.ofNat 64 (beRead unit 12 8)⟩)))
    events := evs ++ gap ++ change ++ ctx }

/-- The state and answer of an accepted context unit (R304, R308): the context is held, and the timestamp of a standard
packet becomes the reference where it is a legal one, else a warning is given. -/
def State.afterContext (s : State) (c : Context) (len : Nat) (evs : List Event) : State :=
  let t := { s with pending := some c }
  match c.record.std with
  | none => t.answered (.ok (.received none)) evs
  | some f =>
    if f.tsFrac.toNat < picosPerSecond then
      { t with tsRef := ⟨f.tsFull, f.tsFrac⟩, tsPsr := 0 }.answered (.ok (.received none)) evs
    else t.answered (.ok (.received none)) (evs ++ [.warn .ctxTsRange len])

/-- The data packet a sink sends for the samples it holds and a timestamp (R134, R136, R198), lane bytes given. -/
def State.packetFor (s : State) (ts : Timestamp) (payload : List Byte) : List Byte :=
  let words := (20 + s.cfg.spp.toNat * (2 * (s.cfg.bitDepth.toNat / 8))) / 4
  beBytes 4 (s.txStatic ||| (s.txSeq.setWidth 32 <<< 16) ||| BitVec.ofNat 32 words).toNat
    ++ beBytes 4 s.cfg.streamId.toNat ++ beBytes 4 ts.full.toNat ++ beBytes 8 ts.frac.toNat ++ payload

/-- The header word of the context packet a sink sends, of a size in bytes (R199). -/
def State.contextHeaderFor (s : State) (size : Nat) : Nat :=
  (s.cfg.ctxStatic ||| (s.ctxSeq.setWidth 32 <<< 16) ||| BitVec.ofNat 32 (size / 4)).toNat

/-- `class_id` of a sink's context packet: bits 23:0 of CFG_OUI above the 32 bits of CFG_CLASS (R216, R217; log 17). -/
def State.classIdFor (s : State) : Nat := s.cfg.oui.toNat % 2 ^ 24 * 2 ^ 32 + s.cfg.classCode.toNat

/-- The raw fields of the alternate context packet a sink sends, in the table order of R210 (R216, R218), its bandwidth
and sample rate given as 44.20 words. -/
def State.altContextFor (s : State) (bw sr : Word64) : List Nat :=
  [s.contextHeaderFor 72, s.cfg.streamId.toNat, s.classIdFor, s.cfg.cif.toNat, bw.toNat, s.cfg.ifRefFreq.toNat,
   s.cfg.rfRefFreq.toNat, s.cfg.ifBandOffset.toNat, sr.toNat, s.cfg.stateEvent.toNat,
   (s.cfg.bitDepth.toNat - 1) * 2 ^ 32]

/-- The raw fields of the standard context packet a sink sends for a timestamp, in the table order of R211 (R216, R218;
log 7). -/
def State.stdContextFor (s : State) (ts : Timestamp) (bw sr : Word64) : List Nat :=
  [s.contextHeaderFor 108, s.cfg.streamId.toNat, s.classIdFor, ts.full.toNat, ts.frac.toNat, s.cfg.cif.toNat,
   s.cfg.refPoint.toNat, bw.toNat, s.cfg.ifRefFreq.toNat, s.cfg.rfRefFreq.toNat, s.cfg.ifBandOffset.toNat,
   s.cfg.refLevel.toNat, s.cfg.gain.toNat, sr.toNat, s.cfg.tsAdj.toNat, s.cfg.tsCal.toNat, s.cfg.stateEvent.toNat,
   (s.cfg.bitDepth.toNat - 1) * 2 ^ 32]

/-- A packet is exactly the values of a field table, each big-endian at its offset and width (R138, R139). -/
def HoldsFields (packet : List Byte) (size : Nat) (fields : List (Nat × Nat)) (vals : List Nat) : Prop :=
  packet.length = size ∧ vals.length = fields.length ∧ ∀ p ∈ fields.zip vals, beRead packet p.1.1 p.1.2 = p.2

/-! ### Invariants -/

/-- The reserved bits of every configuration register read 0 (R44), and CFG_T0_FRAC is a legal fraction (R60). -/
def CfgRegs.Legal (c : CfgRegs) : Prop :=
  (∀ r : CfgReg, c.get r &&& r.reservedMask = 0) ∧ c.t0Frac.toNat < picosPerSecond

/-- ERR_CODE is 0 while no fatal error has occurred, and only then (R64, R384). -/
def State.ErrInv (s : State) : Prop := s.phase = .fault ↔ s.errCode ≠ 0

/-- In RUN the configuration passes the checks of START (R364, R430). -/
def State.RunInv (s : State) : Prop := s.phase = .run → startCheck s = none

/-- The time reference is a legal timestamp (R70). -/
def State.TimeInv (s : State) : Prop := s.tsRef.frac.toNat < picosPerSecond

/-- The accumulator holds exactly the counted samples, and between commands of a running sink fewer than a packet (R67,
R72); in CONFIG it is empty (R89). -/
def State.AccInv (s : State) : Prop :=
  s.txAcc.length = s.txAccCount.toNat * s.sampleSize
    ∧ (s.phase = .config → s.txAccCount = 0)
    ∧ (s.phase = .run → s.isSource = false → s.txAccCount.toNat < s.cfg.spp.toNat)

/-- Bits 19:0 of TX_STATIC are always 0 (R68). -/
def State.StaticInv (s : State) : Prop := s.txStatic.extractLsb' 0 20 = 0

/-- The header sequence of the n-th data packet is n mod 16 (R266). -/
def State.SeqInv (s : State) : Prop := s.txSeq.toNat = s.txPacketCount.toNat % 16

/-- The TCP framing state (R84, R85, R86): what each phase holds, and that a client is only ever connected to a TCP
source in RUN or after it. -/
def State.TcpInv (s : State) : Prop :=
  (match s.tcpPhase with
   | .disconnected => s.tcpIn = [] ∧ s.tcpBuf = [] ∧ s.tcpNeed = 0
   | .header => s.tcpBuf.length < 4 ∧ s.tcpNeed = 0
   | .body => 4 ≤ s.tcpBuf.length ∧ s.tcpBuf.length < s.tcpNeed.toNat ∧ s.tcpNeed.toNat ≤ 262140
       ∧ s.tcpNeed.toNat % 4 = 0)
    ∧ (s.tcpPhase ≠ .disconnected → s.phase ≠ .config ∧ s.isSource = true ∧ s.isTcp = true)

/-- The egress link is only ever down in a TCP sink in RUN or after it (R75). -/
def State.LinkInv (s : State) : Prop :=
  s.linkUp = false → s.phase ≠ .config ∧ s.isSource = false ∧ s.isTcp = true

/-- The invariant of the engine: what 10_state.md says of the state between commands. -/
structure Inv (s : State) : Prop where
  /-- Reserved configuration bits and CFG_T0_FRAC. -/
  cfg : s.cfg.Legal
  /-- ERR_CODE and the phase. -/
  err : s.ErrInv
  /-- A running configuration is a checked one. -/
  run : s.RunInv
  /-- The time reference. -/
  time : s.TimeInv
  /-- The accumulator. -/
  acc : s.AccInv
  /-- The static pattern. -/
  static : s.StaticInv
  /-- Sequence and packet count. -/
  seq : s.SeqInv
  /-- The TCP framing state. -/
  tcp : s.TcpInv
  /-- The egress link. -/
  link : s.LinkInv

/-- A state is safe when no fatal error has ended its stream (R384, R385). -/
def State.Safe (s : State) : Prop := s.phase ≠ .fault

end Sys2Proof.Machine
end

