-- ==== Sys2Proof/Certificates/Slice0/Obligations.lean ====
section
/-! DEFINITION. The statements about the engine, from the numbered rules of the spec. `answered` and `faulted` change
nothing but what they name, so an equation of a command's next state is its result and its frame at once: every
register, buffer, port and model field not named is unchanged. -/

open Sys2Proof Sys2Proof.Machine

/-! ### Words, steps and answers -/

/-- Every command is read back from its word, and every word that is a command is that command's word (R145, R147). -/
def Obligations.DecodeEncodeAgree : Prop :=
  (∀ i : Instr, decode (encode i) = .ok i) ∧ ∀ (w : Word32) (i : Instr), decode w = .ok i → encode i = w

/-- R148: a word that matches no row of the opcode table is refused with ILLEGAL_COMMAND and changes no state, whatever
the phase; a word that matches one is a command. -/
def Obligations.ReservedWordsAreRefused : Prop :=
  ∀ (s : State) (c : Command) (rest : List Command), s.cmdq = c :: rest →
    (isCommandWord c.word → ∃ i, decode c.word = .ok i) ∧
    (¬ isCommandWord c.word →
      step s = .next ({ s with cmdq := rest, port := c.operands }.answered (.refused .illegalCommand) []))

/-- Words of every family, written out from R145 and R147, decode to the commands they stand for; three words that are
no command are rejected by name. -/
def Obligations.FamilyWordsDecode : Prop :=
  decode 0x01000000 = .ok .softReset ∧ decode 0x02000008 = .ok (.regWrite 0x008)
    ∧ decode 0x03000104 = .ok (.regRead 0x104) ∧ decode 0x11000000 = .ok .fxpEncode
    ∧ decode 0x21000000 = .ok .hdrDecode ∧ decode 0x30000000 = .ok .ctxEncodeAlt
    ∧ decode 0x30000001 = .ok .ctxEncodeStd ∧ decode 0x41000000 = .ok .tsReset ∧ decode 0x50000000 = .ok .txPush
    ∧ decode 0x60000000 = .ok .rxUnit ∧ decode 0x72000000 = .ok .tcpRxPoll
    ∧ decode 0x05000000 = .error (.reservedOp 0x05) ∧ decode 0x04000001 = .error (.reservedBits 0x04)
    ∧ decode 0x30000002 = .error (.reservedBits 0x30)

/-- A step takes the oldest command and performs it, its operands on the operand port (R110, R145); with no command it
holds the state (R397, R421). That the commands stand in a queue is the model's choice (log 1). -/
def Obligations.StepPerformsTheDecodedCommand : Prop :=
  (∀ (s : State) (c : Command) (rest : List Command) (i : Instr), s.cmdq = c :: rest → decode c.word = .ok i →
      step s = exec i { s with cmdq := rest, port := c.operands }) ∧
    ∀ s : State, s.cmdq = [] → step s = .next s

/-- R150: every command, in every state, ends with exactly one response; a refusal has changed nothing and lists no
event, and after a FAULT response the engine is in FAULT with the code latched. -/
def Obligations.EveryCommandEndsWithOneResponse : Prop :=
  ∀ (i : Instr) (s : State), ∃ t r, exec i s = .next t ∧ t.response = some r ∧
    (∀ c, r = .refused c → t = s.answered r []) ∧ (∀ c, r = .fault c → t.phase = .fault ∧ t.errCode = c.code)

/-- R149: a command outside its row is refused, with IN_FAULT in FAULT, else WRONG_PHASE, and with WRONG_DIRECTION in a
phase that admits it, in the order of R386; inside its row none of the three refuses it, but for the WRONG_PHASE of a
second TCP_RX_ACCEPT and of TCP_RX_BYTES with no client. -/
def Obligations.CommandsAreAdmittedByPhaseAndDirection : Prop :=
  ∀ (i : Instr) (s : State),
    (s.phase = .fault → .fault ∉ Instr.phases i → exec i s = .next (s.answered (.refused .inFault) [])) ∧
    (s.phase ≠ .fault → s.phase ∉ Instr.phases i → exec i s = .next (s.answered (.refused .wrongPhase) [])) ∧
    (s.phase ∈ Instr.phases i → Instr.fits i (s.cfg.ctrl.getLsbD 0) (s.cfg.ctrl.getLsbD 1) = false →
      exec i s = .next (s.answered (.refused .wrongDirection) [])) ∧
    (s.phase ∈ Instr.phases i → Instr.fits i (s.cfg.ctrl.getLsbD 0) (s.cfg.ctrl.getLsbD 1) = true →
      ∀ t, exec i s = .next t →
        t.response ≠ some (.refused .inFault) ∧ t.response ≠ some (.refused .wrongDirection) ∧
        (t.response = some (.refused .wrongPhase) → i = .tcpRxAccept ∨ i = .tcpRxBytes))

/-- R385: in FAULT a command either is REG_READ and changes nothing but the answer, or is SOFT_RESET, which leaves FAULT
with ERR_CODE 0, or is refused with IN_FAULT; none sends a packet or emits an event. -/
def Obligations.FaultIsLeftOnlyByReset : Prop :=
  ∀ (i : Instr) (s t : State), s.phase = .fault → exec i s = .next t →
    t.egress = s.egress ∧ t.events = [] ∧
    ((i = .softReset ∧ t.phase = .config ∧ t.errCode = 0) ∨
      ((∃ a, i = .regRead a) ∧ ∃ r, t = s.answered r []) ∨
      (i ≠ .softReset ∧ (∀ a, i ≠ .regRead a) ∧ t = s.answered (.refused .inFault) []))

/-- Outside CONFIG no step changes a configuration register, but for the step that performs a SOFT_RESET (R115, R430).
-/
def Obligations.ConfigurationIsFixedAfterStart : Prop :=
  ∀ s t : State, s.phase ≠ .config → step s = .next t →
    t.cfg = s.cfg ∨ ∃ c rest, s.cmdq = c :: rest ∧ decode c.word = .ok .softReset

/-- The egress stream only grows, and only TX_PUSH makes it grow; reset retracts nothing (R112, R420). -/
def Obligations.EgressOnlyGrows : Prop :=
  ∀ (i : Instr) (s t : State), exec i s = .next t →
    ∃ ps, t.egress = s.egress ++ ps ∧ (i ≠ .txPush → ps = [])

/-! ### Reset and invariants -/

/-- R89: the reset value of every state element. -/
def Obligations.ResetValuesAreThoseOfTheTable : Prop :=
  let r := State.reset
  let c := r.cfg
  r.phase = .config ∧ c.ctrl = 0 ∧ c.bitDepth = 0 ∧ c.spp = 0 ∧ c.ctxSize = 0 ∧ c.ctxInterval = 0 ∧ c.streamId = 0
    ∧ c.expectSid = 0 ∧ c.oui = 0 ∧ c.classCode = 0 ∧ c.ipAddr = 0 ∧ c.port = 0 ∧ c.rxTimeout = 0
    ∧ c.dataStatic = 0x18E00000 ∧ c.ctxStatic = 0x49000000 ∧ c.cif = 0 ∧ c.stateEvent = 0 ∧ c.refPoint = 0
    ∧ c.refLevel = 0 ∧ c.gain = 0 ∧ c.tsCal = 0 ∧ c.ifRefFreq = 0 ∧ c.rfRefFreq = 0 ∧ c.ifBandOffset = 0 ∧ c.tsAdj = 0
    ∧ c.sampleRate = 0 ∧ c.bandwidth = 0 ∧ c.t0Full = 0 ∧ c.t0Frac = 0 ∧ r.errCode = 0 ∧ r.txSeq = 0 ∧ r.ctxSeq = 0
    ∧ r.txAccCount = 0 ∧ r.txAcc = [] ∧ r.txStatic = 0x18E00000 ∧ r.txPacketCount = 0 ∧ r.tsRef.full = 0
    ∧ r.tsRef.frac = 0 ∧ r.tsPsr = 0 ∧ r.linkUp = true ∧ r.rxLastSeq.valid = false ∧ r.rxLastStatic.valid = false
    ∧ r.pending = none ∧ r.rxOutIndex = 0 ∧ r.tcpIn = [] ∧ r.tcpBuf = [] ∧ r.tcpPhase = .disconnected ∧ r.tcpNeed = 0

/-- SOFT_RESET gives every element of R89 its reset value in every state, and answers OK (R366, R420). That the ports,
the egress stream and the model's own fields keep their values is the model's choice (log 6); R420 says it of the
egress stream. -/
def Obligations.SoftResetReturnsEveryElementToReset : Prop :=
  ∀ s : State, exec .softReset s = .next
    { State.reset with
      cmdq := s.cmdq
      port := s.port
      egress := s.egress
      sendDraws := s.sendDraws
      sendCount := s.sendCount
      rxBufBytes := s.rxBufBytes
      response := some (.ok .unit)
      events := [] }

/-- The invariant of 10_state.md holds at reset. -/
def Obligations.ResetMeetsTheInvariant : Prop := Inv State.reset

/-- From every state that meets the invariant, reached or not, a step leads to one that meets it (R44, R60, R64, R67,
R68, R70, R72, R75, R85, R86, R266, R364, R430). -/
def Obligations.EveryStepKeepsTheInvariant : Prop :=
  ∀ s t : State, Inv s → step s = .next t → Inv t

/-- The numbers of the fatal errors, refusals and warnings (R381, R382, R383). -/
def Obligations.ErrorCodesHaveTheirNumbers : Prop :=
  FatalCode.code .cfgSpp = 0x01 ∧ FatalCode.code .cfgBitDepth = 0x02 ∧ FatalCode.code .cfgCtxSize = 0x03
    ∧ FatalCode.code .cfgCtxInterval = 0x04 ∧ FatalCode.code .cfgSampleRate = 0x05
    ∧ FatalCode.code .cfgBandwidth = 0x06 ∧ FatalCode.code (.proto .streamId) = 0x10
    ∧ FatalCode.code (.proto .ctxBitDepth) = 0x11 ∧ FatalCode.code (.proto .ctxLength) = 0x12
    ∧ FatalCode.code (.proto .dataLength) = 0x13 ∧ FatalCode.code .transportSetup = 0x20
    ∧ FatalCode.code .transportSend = 0x21 ∧ FatalCode.code .tsRange = 0x30
    ∧ RefusalCode.code .illegalCommand = 0x80 ∧ RefusalCode.code .wrongPhase = 0x81
    ∧ RefusalCode.code .wrongDirection = 0x82 ∧ RefusalCode.code .badAddress = 0x83
    ∧ RefusalCode.code .badOperand = 0x84 ∧ RefusalCode.code .fxpRange = 0x85 ∧ RefusalCode.code .badLength = 0x86
    ∧ RefusalCode.code .inFault = 0x87 ∧ RefusalCode.code .badConfig = 0x88 ∧ WarnCode.code .tcpFraming = 0x14
    ∧ WarnCode.code .ctxTsRange = 0x15 ∧ ∀ c, WarnCode.code (.proto c) = FatalCode.code (.proto c)

/-! ### Control commands -/

/-- REG_READ in every phase gives the register at an address of the map, zero-extended, and refuses every other address
with BAD_ADDRESS; nothing but the answer changes (R61, R105, R106, R107, R362). -/
def Obligations.RegReadGivesTheRegister : Prop :=
  ∀ (s : State) (a : RegAddr),
    (∀ row ∈ registerMap, row.1 = a → exec (.regRead a) s = .next (s.answered (.ok (.u64 (row.2 s))) [])) ∧
    ((∀ row ∈ registerMap, row.1 ≠ a) → exec (.regRead a) s = .next (s.answered (.refused .badAddress) []))

/-- R63: the fields of STATUS, its reserved bits 0, and its value at reset; it is read at 0x100 and never written. -/
def Obligations.StatusWordShowsItsFields : Prop :=
  (∀ s : State,
    (statusWord s).toNat % 4 = (match s.phase with | .config => 0 | .run => 1 | .fault => 2)
      ∧ (statusWord s).getLsbD 2 = s.linkUp
      ∧ (statusWord s).toNat / 8 % 4 = (match s.tcpPhase with | .disconnected => 0 | .header => 1 | .body => 2)
      ∧ (statusWord s).getLsbD 5 = s.pending.isSome ∧ (statusWord s).getLsbD 6 = s.rxLastSeq.valid
      ∧ (statusWord s).getLsbD 7 = s.rxLastStatic.valid ∧ (statusWord s).toNat < 256
      ∧ exec (.regRead 0x100) s = .next (s.answered (.ok (.u64 ((statusWord s).setWidth 64))) [])
      ∧ (s.phase = .config → exec (.regWrite 0x100) s = .next (s.answered (.refused .illegalCommand) []))) ∧
    statusWord State.reset = 0x00000004

/-- REG_WRITE of a legal value in CONFIG changes one configuration register and nothing else: read back, that register
gives the value, and every other register of the map what it gave before (R360). -/
def Obligations.RegWriteStoresALegalValue : Prop :=
  ∀ (s : State) (row : RegAddr × Nat × Word64) (v : Word64), s.phase = .config → s.port = [.word v] →
    row ∈ writableMap → LegalWrite row v →
    ∃ c, exec (.regWrite row.1) s = .next ({ s with cfg := c }.answered (.ok .unit) []) ∧
      ∀ e ∈ registerMap, e.2 { s with cfg := c } = if e.1 = row.1 then v else e.2 s

/-- REG_WRITE in CONFIG refuses a status register's address with ILLEGAL_COMMAND, an address of no register with
BAD_ADDRESS, and an illegal value with BAD_OPERAND (R44, R62, R360). -/
def Obligations.RegWriteRefusals : Prop :=
  ∀ (s : State) (a : RegAddr), s.phase = .config →
    ((∃ e ∈ registerMap, e.1 = a ∧ 0x100 ≤ a.toNat) →
      exec (.regWrite a) s = .next (s.answered (.refused .illegalCommand) [])) ∧
    ((∀ e ∈ registerMap, e.1 ≠ a) → exec (.regWrite a) s = .next (s.answered (.refused .badAddress) [])) ∧
    (∀ row ∈ writableMap, row.1 = a → ∀ v, s.port = [.word v] → ¬ LegalWrite row v →
      exec (.regWrite a) s = .next (s.answered (.refused .badOperand) []))

/-- START with a legal configuration enters RUN; the sink also loads the time reference and the static pattern, and the
source checks the bit depth only (R46 to R49, R57, R58, R364). -/
def Obligations.StartEntersRun : Prop :=
  ∀ s : State, s.phase = .config → (s.cfg.bitDepth = 8 ∨ s.cfg.bitDepth = 16) →
    (s.cfg.ctrl.getLsbD 0 = true → exec .start s = .next ({ s with phase := .run }.answered (.ok .unit) [])) ∧
    (s.cfg.ctrl.getLsbD 0 = false →
      2 ≤ s.cfg.spp.toNat →
      (s.cfg.bitDepth = 16 → s.cfg.spp.toNat ≤ 65530) →
      (s.cfg.bitDepth = 8 → s.cfg.spp.toNat ≤ 131060 ∧ s.cfg.spp.toNat % 2 = 0) →
      (s.cfg.ctxSize = 72 ∨ s.cfg.ctxSize = 108) →
      (s.cfg.ctrl.getLsbD 2 = false → s.cfg.ctxInterval ≠ 0) →
      f64IsPositiveFinite s.cfg.sampleRate = true → EncodableValue s.cfg.sampleRate →
      EncodableValue s.cfg.bandwidth →
      exec .start s = .next
        ({ s with phase := .run, tsRef := ⟨s.cfg.t0Full, s.cfg.t0Frac⟩, tsPsr := 0, txStatic := s.cfg.dataStatic
          }.answered (.ok .unit) []))

/-- START with an illegal configuration raises the first failing check, in the order bit depth, samples per packet,
context size, context interval, sample rate, bandwidth (R364, R388). -/
def Obligations.StartReportsTheFirstFailure : Prop :=
  ∀ s : State, s.phase = .config →
    let c := s.cfg
    let badDepth := c.bitDepth ≠ 8 ∧ c.bitDepth ≠ 16
    let badSpp := c.spp.toNat < 2 ∨ (c.bitDepth = 16 ∧ 65530 < c.spp.toNat) ∨
      (c.bitDepth = 8 ∧ (131060 < c.spp.toNat ∨ c.spp.toNat % 2 = 1))
    let badSize := c.ctxSize ≠ 72 ∧ c.ctxSize ≠ 108
    let badInterval := c.ctrl.getLsbD 2 = false ∧ c.ctxInterval = 0
    let badRate := f64IsPositiveFinite c.sampleRate = false ∨ ¬ EncodableValue c.sampleRate
    (badDepth → exec .start s = .next (s.faulted .cfgBitDepth [])) ∧
    (c.ctrl.getLsbD 0 = false → ¬ badDepth →
      (badSpp → exec .start s = .next (s.faulted .cfgSpp [])) ∧
      (¬ badSpp → badSize → exec .start s = .next (s.faulted .cfgCtxSize [])) ∧
      (¬ badSpp → ¬ badSize → badInterval → exec .start s = .next (s.faulted .cfgCtxInterval [])) ∧
      (¬ badSpp → ¬ badSize → ¬ badInterval → badRate → exec .start s = .next (s.faulted .cfgSampleRate [])) ∧
      (¬ badSpp → ¬ badSize → ¬ badInterval → ¬ badRate → ¬ EncodableValue c.bandwidth →
        exec .start s = .next (s.faulted .cfgBandwidth [])))

/-! ### Fixed-point codec and binary64 -/

/-- The binary64 rounding is to nearest, ties to even (R20; log 9). The result is no finite value, and is then +∞, exactly
from (2^54 - 1) * 2^970 on, the midpoint between the largest finite value and 2^1024. Below that no finite binary64 value
is nearer to n/d than the result, and one that is as near has an odd last place while the result's is even. Distances are
in units of 2^-1074, scaled by d. -/
def Obligations.RoundingIsToNearestTiesToEven : Prop :=
  ∀ n d : Nat, 0 < d →
    let r := f64OfRatio n d
    let off := fun (v : Word64) => ((f64Mag v * d : Nat) : Int) - ((n * f64One : Nat) : Int)
    (f64IsFinite r = false ↔ (2 ^ 54 - 1) * 2 ^ 970 * d ≤ n) ∧
    (f64IsFinite r = false → r = 0x7FF0000000000000) ∧
    ∀ b : Word64, f64IsFinite r = true → f64IsFinite b = true → f64Sign b = false →
      f64Sign r = false ∧ (off r).natAbs ≤ (off b).natAbs ∧
        ((off r).natAbs = (off b).natAbs → b ≠ r → r.toNat % 2 = 0 ∧ b.toNat % 2 = 1)

/-- The three binary64 operations of FXP_DECODE and the single rounding of bits / 2^20 agree for every word (R171, derived
in the spec from R170 and R20; log 9). -/
def Obligations.FxpDecodeAgreesWithOneRounding : Prop :=
  ∀ bits : Word64,
    f64Add (f64OfNat (bits.toNat / 2 ^ 20)) (f64Div (f64OfNat (bits.toNat % 2 ^ 20)) (f64OfNat (2 ^ 20)))
      = f64OfRatio bits.toNat (2 ^ 20)

/-- FXP_DECODE answers bits / 2^20 rounded once, for every operand, and changes nothing else (R170; log 9). -/
def Obligations.FxpDecodeAnswersTheRoundedValue : Prop :=
  ∀ (s : State) (bits : Word64), s.phase ≠ .fault → s.port = [.word bits] →
    exec .fxpDecode s = .next (s.answered (.ok (.f64 (f64OfRatio bits.toNat (2 ^ 20)))) [])

/-- FXP_DECODE of N << 20 is exactly N.0, for every N below 2^44 (R173, derived in the spec; log 9). -/
def Obligations.FxpDecodeIsExactOnIntegers : Prop :=
  ∀ (s : State) (n : Nat), s.phase ≠ .fault → n < 2 ^ 44 → s.port = [.word (BitVec.ofNat 64 n <<< 20)] →
    ∃ v, exec .fxpDecode s = .next (s.answered (.ok (.f64 v)) []) ∧ f64IsFinite v = true ∧ f64Sign v = false ∧
      f64Mag v = n * f64One

/-- FXP_ENCODE answers the nearest integer, a tie away from zero, in bits 63:20, and refuses with FXP_RANGE exactly the
values that are not encodable (R174, R176; the tie rule is that of R175's parameter, log 8). -/
def Obligations.FxpEncodeRoundsHalfAway : Prop :=
  ∀ (s : State) (v : Word64), s.phase ≠ .fault → s.port = [.word v] →
    (EncodableValue v → f64Sign v = true → exec .fxpEncode s = .next (s.answered (.ok (.u64 0)) [])) ∧
    (EncodableValue v → f64Sign v = false → ∀ n : Nat,
      (2 * n) * f64One ≤ 2 * f64Mag v + f64One → 2 * f64Mag v + f64One < (2 * n + 2) * f64One →
      n < 2 ^ 44 ∧ exec .fxpEncode s = .next (s.answered (.ok (.u64 (BitVec.ofNat 64 n <<< 20))) [])) ∧
    (¬ EncodableValue v → exec .fxpEncode s = .next (s.answered (.refused .fxpRange) []))

/-- Encode then decode gives an integer below 2^44 back; of any encodable value it gives the rounded integer (R177,
derived in the spec from R173 and R174; log 8, log 9). -/
def Obligations.FxpRoundTrip : Prop :=
  (∀ n : Nat, n < 2 ^ 44 →
    fxpOfF64 (f64OfNat n) = some (BitVec.ofNat 64 n <<< 20) ∧ fxpToF64 (BitVec.ofNat 64 n <<< 20) = f64OfNat n) ∧
  ∀ v w : Word64, fxpOfF64 v = some w →
    w.toNat % 2 ^ 20 = 0 ∧ fxpToF64 w = f64OfNat (w.toNat / 2 ^ 20) ∧
      (f64Sign v = false → w.toNat / 2 ^ 20 = (2 * f64Mag v + f64One) / (2 * f64One)) ∧ (f64Sign v = true → w = 0)

/-! ### Header codec -/

/-- R190: HDR_ENCODE, OP 0x20, packs the three operands where none spills into another field, else refuses with
BAD_OPERAND. -/
def Obligations.HdrEncodePacksTheFields : Prop :=
  decode 0x20000000 = .ok .hdrEncode ∧ ∀ (s : State) (static seq wc : Word32), s.phase ≠ .fault →
    s.port = [.word (static.setWidth 64), .word (seq.setWidth 64), .word (wc.setWidth 64)] →
    ((static.toNat % 2 ^ 20 ≠ 0 ∨ 15 < seq.toNat ∨ 0xFFFF < wc.toNat) →
      exec .hdrEncode s = .next (s.answered (.refused .badOperand) [])) ∧
    (static.toNat % 2 ^ 20 = 0 → seq.toNat ≤ 15 → wc.toNat ≤ 0xFFFF →
      exec .hdrEncode s =
        .next (s.answered (.ok (.u32 (BitVec.ofNat 32 (static.toNat + seq.toNat * 2 ^ 16 + wc.toNat)))) []))

/-- R192: HDR_DECODE, OP 0x21, of every word gives its fields at their bit positions. -/
def Obligations.HdrDecodeGivesTheFields : Prop :=
  decode 0x21000000 = .ok .hdrDecode ∧ ∀ (s : State) (w : Word32), s.phase ≠ .fault → s.port = [.word (w.setWidth 64)] →
    ∃ h, exec .hdrDecode s = .next (s.answered (.ok (.header h)) []) ∧ h.kind.toNat = w.toNat / 2 ^ 28 ∧
      h.sequence.toNat = w.toNat / 2 ^ 16 % 16 ∧ h.wordCount.toNat = w.toNat % 2 ^ 16 ∧
      h.staticPart.toNat = w.toNat / 2 ^ 20 * 2 ^ 20 ∧ h.static12.toNat = w.toNat / 2 ^ 20 ∧
      h.isData = decide (w.toNat / 2 ^ 28 = 1)

/-- HDR_DECODE of what HDR_ENCODE answers gives the operands back (R193, derived in the spec). -/
def Obligations.HeaderRoundTrip : Prop :=
  ∀ (s t : State) (static seq wc w : Word32), s.phase ≠ .fault → static.toNat % 2 ^ 20 = 0 → seq.toNat ≤ 15 →
    wc.toNat ≤ 0xFFFF →
    exec .hdrEncode { s with port := [.word (static.setWidth 64), .word (seq.setWidth 64), .word (wc.setWidth 64)] }
      = .next t → t.response = some (.ok (.u32 w)) →
    ∃ h u, exec .hdrDecode { t with port := [.word (w.setWidth 64)] } = .next u ∧
      u.response = some (.ok (.header h)) ∧ h.kind.toNat = static.toNat / 2 ^ 28 ∧ h.sequence.toNat = seq.toNat ∧
      h.wordCount.toNat = wc.toNat ∧ h.staticPart = static

/-- R196 and R197: SID_ENCODE, OP 0x22, answers the four bytes of the identifier, most significant first; SID_DECODE, OP
0x23, of four bytes answers the identifier they denote, and refuses any other length with BAD_LENGTH. -/
def Obligations.SidCodecIsBigEndian : Prop :=
  decode 0x22000000 = .ok .sidEncode ∧ decode 0x23000000 = .ok .sidDecode ∧ ∀ s : State, s.phase ≠ .fault →
    (∀ sid : Word32, s.port = [.word (sid.setWidth 64)] → exec .sidEncode s = .next (s.answered (.ok (.bytes
      [sid.extractLsb' 24 8, sid.extractLsb' 16 8, sid.extractLsb' 8 8, sid.extractLsb' 0 8])) [])) ∧
    (∀ a b c d : Byte, s.port = [.bytes [a, b, c, d]] →
      exec .sidDecode s = .next (s.answered (.ok (.u32 (a ++ b ++ c ++ d))) [])) ∧
    (∀ buf : List Byte, s.port = [.bytes buf] → buf.length ≠ 4 →
      exec .sidDecode s = .next (s.answered (.refused .badLength) []))

/-! ### Context codec -/

/-- CTX_ENCODE of operands that fit answers a packet of the profile's size in which every field stands big-endian at its
offset (R138, R139, R214; log 7). -/
def Obligations.CtxEncodeWritesEveryField : Prop :=
  ∀ (s : State) (vals : List Word64), s.phase ≠ .fault → s.port = vals.map Operand.word →
    let writes := fun (i : Instr) (size : Nat) (fields : List (Nat × Nat)) =>
      vals.length = fields.length → (∀ p ∈ fields.zip vals, p.2.toNat < 256 ^ p.1.2) →
      ∃ b : List Byte, exec i s = .next (s.answered (.ok (.bytes b)) []) ∧ b.length = size ∧
        ∀ p ∈ fields.zip vals, beRead b p.1.1 p.1.2 = p.2.toNat
    writes .ctxEncodeAlt 72 altFields ∧ writes .ctxEncodeStd 108 stdFields

/-- CTX_ENCODE refuses a wrong operand count and a value wider than its field with BAD_OPERAND (R214; log 7). -/
def Obligations.CtxEncodeRefusesMisfits : Prop :=
  ∀ s : State, s.phase ≠ .fault →
    let refuses := fun (i : Instr) (fields : List (Nat × Nat)) =>
      (s.port.length ≠ fields.length ∨
        ∃ (k : Nat) (f : Nat × Nat) (v : Word64), fields[k]? = some f ∧ s.port[k]? = some (.word v) ∧
          256 ^ f.2 ≤ v.toNat) →
      exec i s = .next (s.answered (.refused .badOperand) [])
    refuses .ctxEncodeAlt altFields ∧ refuses .ctxEncodeStd stdFields

/-- CTX_DECODE of 72 or 108 bytes answers the profile and a record whose raw fields are the big-endian numbers at the
profile's offsets, with the two 44.20 fields also as binary64 and the bit depth of payload_format; any other length is
refused with BAD_LENGTH (R138 to R141, R212; log 7, log 9). -/
def Obligations.CtxDecodeReadsEveryField : Prop :=
  ∀ (s : State) (buf : List Byte), s.phase ≠ .fault → s.port = [.bytes buf] →
    let reads := fun (p : Profile) (fields : List (Nat × Nat)) =>
      ∃ r : ContextRecord, exec .ctxDecode s = .next (s.answered (.ok (.context p r)) []) ∧
        r.rawFields = fields.map (fun f => beRead buf f.1 f.2) ∧ (r.std.isSome = true ↔ p = .std) ∧
        r.bandwidth = f64OfRatio r.bandwidthRaw.toNat (2 ^ 20) ∧
        r.sampleRate = f64OfRatio r.sampleRateRaw.toNat (2 ^ 20) ∧
        r.bitDepth = r.payloadFormat.toNat / 2 ^ 32 % 32 + 1
    (buf.length = 72 → reads .alt altFields) ∧ (buf.length = 108 → reads .std stdFields) ∧
      (buf.length ≠ 72 → buf.length ≠ 108 → exec .ctxDecode s = .next (s.answered (.refused .badLength) []))

/-- CTX_DECODE of what CTX_ENCODE answers gives the profile and the same raw value in every field (R215, derived in the
spec; log 7). -/
def Obligations.ContextRoundTrip : Prop :=
  ∀ (s t : State) (b : List Byte) (vals : List Word64),
    let back := fun (i : Instr) (p : Profile) =>
      exec i { s with port := vals.map Operand.word } = .next t → t.response = some (.ok (.bytes b)) →
      ∃ (r : ContextRecord) (u : State), exec .ctxDecode { t with port := [.bytes b] } = .next u ∧
        u.response = some (.ok (.context p r)) ∧ r.rawFields = vals.map BitVec.toNat
    back .ctxEncodeAlt .alt ∧ back .ctxEncodeStd .std

/-! ### Timestamp engine -/

/-- TS_ADVANCE answers the reference moved by the elapsed time, in the binary64 steps of R240, with one carry, and writes
no state (R241); a sample rate that is not positive and finite is refused, an infinite quotient is TS_RANGE (log 9). -/
def Obligations.TsAdvanceExtrapolates : Prop :=
  ∀ s : State, s.phase = .run →
    let e := f64Div (f64OfNat (s.tsPsr.toNat * s.cfg.spp.toNat)) s.cfg.sampleRate
    let whole := f64Floor e
    let ps := f64Floor (f64Mul (f64Sub e (f64OfNat whole)) (f64OfNat 1000000000000))
    let f := s.tsRef.frac.toNat + ps
    (f64IsPositiveFinite s.cfg.sampleRate = false →
      exec .tsAdvance s = .next (s.answered (.refused .badConfig) [])) ∧
    (f64IsPositiveFinite s.cfg.sampleRate = true → f64IsFinite e = false →
      exec .tsAdvance s = .next (s.faulted .tsRange [])) ∧
    (f64IsPositiveFinite s.cfg.sampleRate = true → f64IsFinite e = true → f < 1000000000000 →
      exec .tsAdvance s = .next
        (s.answered (.ok (.time ⟨BitVec.ofNat 32 (s.tsRef.full.toNat + whole), BitVec.ofNat 64 f⟩)) [])) ∧
    (f64IsPositiveFinite s.cfg.sampleRate = true → f64IsFinite e = true → 1000000000000 ≤ f →
      exec .tsAdvance s = .next
        (s.answered (.ok (.time ⟨BitVec.ofNat 32 (s.tsRef.full.toNat + whole + 1),
          BitVec.ofNat 64 (f - 1000000000000)⟩)) []))

/-- From a legal reference every TS_ADVANCE result has a fraction below 10^12 (R242, derived in the spec; log 9). -/
def Obligations.TsAdvanceKeepsTheFractionLegal : Prop :=
  ∀ (s t : State) (v : Timestamp), s.tsRef.frac.toNat < 1000000000000 → exec .tsAdvance s = .next t →
    t.response = some (.ok (.time v)) → v.frac.toNat < 1000000000000

/-- With no packet since the reference, TS_ADVANCE answers the reference itself (R240, R248; log 9). -/
def Obligations.TsAdvanceAtTheReference : Prop :=
  ∀ s : State, s.phase = .run → f64IsPositiveFinite s.cfg.sampleRate = true → s.tsPsr = 0 →
    s.tsRef.frac.toNat < 1000000000000 → exec .tsAdvance s = .next (s.answered (.ok (.time s.tsRef)) [])

/-- R244 and R270: TS_RESET, OP 0x41, in either direction and TX_SET_TIME, OP 0x51, in the sink set the reference and zero
the packet count, and refuse a fraction of 10^12 or more with BAD_OPERAND. -/
def Obligations.TimeIsSetByReference : Prop :=
  decode 0x41000000 = .ok .tsReset ∧ decode 0x51000000 = .ok .txSetTime ∧ ∀ (s : State) (full : Word32) (frac : Word64), s.phase = .run →
    s.port = [.word (full.setWidth 64), .word frac] →
    let sets := fun (i : Instr) =>
      (frac.toNat < 1000000000000 →
        exec i s = .next ({ s with tsRef := ⟨full, frac⟩, tsPsr := 0 }.answered (.ok .unit) [])) ∧
      (1000000000000 ≤ frac.toNat → exec i s = .next (s.answered (.refused .badOperand) []))
    sets .tsReset ∧ (s.cfg.ctrl.getLsbD 0 = false → sets .txSetTime)

/-- R246: TS_TICK, OP 0x42, counts one packet, modulo 2^64. -/
def Obligations.TsTickCountsOnePacket : Prop :=
  decode 0x42000000 = .ok .tsTick ∧ ∀ s : State, s.phase = .run →
    exec .tsTick s =
      .next ({ s with tsPsr := BitVec.ofNat 64 (s.tsPsr.toNat + 1) }.answered (.ok .unit) [])

/-! ### Transmit framer -/

/-- A batch that leaves the packet incomplete is accumulated, every sample's lanes in wire order, and nothing is sent
(R260). -/
def Obligations.TxPushAccumulates : Prop :=
  ∀ (s : State) (batch : List Sample), s.phase = .run → s.cfg.ctrl.getLsbD 0 = false →
    s.port = [.samples batch] → (∀ p ∈ batch, s.laneOk p = true) →
    (s.cfg.ctrl.getLsbD 1 = false ∨ s.linkUp = true) →
    s.txAcc.length = s.txAccCount.toNat * (2 * (s.cfg.bitDepth.toNat / 8)) →
    s.txAccCount.toNat + batch.length < s.cfg.spp.toNat →
    exec .txPush s = .next
      ({ s with
          txAcc := s.txAcc ++ batch.flatMap (sampleBytes s.cfg.bitDepth.toNat)
          txAccCount := s.txAccCount + BitVec.ofNat 32 batch.length }.answered
        (.ok (.pushed batch.length 0)) [])

/-- A batch that completes exactly one packet sends it, behind a context packet in standalone mode where the packet count
is a multiple of the interval; both carry the TS_ADVANCE timestamp, the counters move and the accumulator is empty
(R260, R262, R263). The sends are accepted (log 4). For a checked context size, a bit depth that is not 0 and an encodable
bandwidth and sample rate, the context packet holds exactly the fields of R216 in table order, under the header of R199
(R216 to R218; the standard table is log 7, the rounding to 44.20 log 8, the layout of class_id and the zero bits of
payload_format log 17). In states START excludes (interval 0, a depth below 8, a rate that is not positive and finite)
it takes the values of log 12. -/
def Obligations.TxPushSendsAFullPacket : Prop :=
  ∀ (s : State) (batch : List Sample) (ts : Timestamp) (draws : List Bool), s.phase = .run →
    s.cfg.ctrl.getLsbD 0 = false → s.port = [.samples batch] → (∀ p ∈ batch, s.laneOk p = true) →
    (s.cfg.ctrl.getLsbD 1 = false ∨ s.linkUp = true) → batch ≠ [] →
    s.txAcc.length = s.txAccCount.toNat * (2 * (s.cfg.bitDepth.toNat / 8)) →
    s.txAccCount.toNat + batch.length = s.cfg.spp.toNat → s.advance = some ts →
    let due := s.cfg.ctrl.getLsbD 2 = false ∧ s.txPacketCount.toNat % s.cfg.ctxInterval.toNat = 0
    let packet := s.packetFor ts (s.txAcc ++ batch.flatMap (sampleBytes s.cfg.bitDepth.toNat))
    let sent := { s with
      txAcc := [], txAccCount := 0, txSeq := s.txSeq + 1, txPacketCount := s.txPacketCount + 1
      tsPsr := s.tsPsr + 1, sendDraws := draws }
    (due → s.sendDraws = true :: true :: draws → exec .txPush s = .next
      ({ sent with ctxSeq := s.ctxSeq + 1, egress := s.egress ++ [s.buildContext ts, packet] }.answered
        (.ok (.pushed batch.length 2)) [])) ∧
    (¬ due → s.sendDraws = true :: draws → exec .txPush s = .next
      ({ sent with egress := s.egress ++ [packet] }.answered (.ok (.pushed batch.length 1)) [])) ∧
    ∀ bw sr : Word64, s.cfg.bitDepth ≠ 0 → fxpOfF64 s.cfg.bandwidth = some bw → fxpOfF64 s.cfg.sampleRate = some sr →
      (s.cfg.ctxSize = 72 → HoldsFields (s.buildContext ts) 72 altFields (s.altContextFor bw sr)) ∧
      (s.cfg.ctxSize = 108 → HoldsFields (s.buildContext ts) 108 stdFields (s.stdContextFor ts bw sr))

/-- Where the packet a batch completes cannot be sent, the engine is in FAULT, the samples up to the packet's end stay
taken, and neither the failed packet's counters nor any later sample move. An infinite elapsed time is TS_RANGE before
anything is sent (R240, R262; log 9). A send that is not accepted is TRANSPORT_SEND, and a context packet already sent
stays sent with its counter (R265; log 4). In states START excludes it takes the values of log 12. -/
def Obligations.TxPushSendFailureIsFatal : Prop :=
  ∀ (s : State) (batch later : List Sample), s.phase = .run →
    s.cfg.ctrl.getLsbD 0 = false → s.port = [.samples (batch ++ later)] →
    (∀ p ∈ batch ++ later, s.laneOk p = true) → (s.cfg.ctrl.getLsbD 1 = false ∨ s.linkUp = true) → batch ≠ [] →
    s.txAcc.length = s.txAccCount.toNat * (2 * (s.cfg.bitDepth.toNat / 8)) →
    s.txAccCount.toNat + batch.length = s.cfg.spp.toNat →
    let due := s.cfg.ctrl.getLsbD 2 = false ∧ s.txPacketCount.toNat % s.cfg.ctxInterval.toNat = 0
    let full := { s with
      txAcc := s.txAcc ++ batch.flatMap (sampleBytes s.cfg.bitDepth.toNat)
      txAccCount := s.txAccCount + BitVec.ofNat 32 batch.length }
    (f64IsPositiveFinite s.cfg.sampleRate = true →
      f64IsFinite (f64Div (f64OfNat (s.tsPsr.toNat * s.cfg.spp.toNat)) s.cfg.sampleRate) = false →
      exec .txPush s = .next (full.faulted .tsRange [])) ∧
    ∀ (ts : Timestamp) (draws : List Bool), s.advance = some ts →
      (s.sendDraws = false :: draws →
        exec .txPush s = .next ({ full with sendDraws := draws }.faulted .transportSend [])) ∧
      (due → s.sendDraws = true :: false :: draws → exec .txPush s = .next
        ({ full with ctxSeq := s.ctxSeq + 1, egress := s.egress ++ [s.buildContext ts], sendDraws := draws
          }.faulted .transportSend []))

/-- A lane outside the signed range of the bit depth refuses the whole batch; with TCP and the link down a legal batch
makes zero progress (R260, R274; a bit depth of 0 is log 12). -/
def Obligations.TxPushRefusesOrMakesZeroProgress : Prop :=
  ∀ (s : State) (batch : List Sample), s.phase = .run → s.cfg.ctrl.getLsbD 0 = false → s.port = [.samples batch] →
    let half : Int := 2 ^ (s.cfg.bitDepth.toNat - 1)
    let inRange := fun p : Sample => -half ≤ p.1 ∧ p.1 ≤ half - 1 ∧ -half ≤ p.2 ∧ p.2 ≤ half - 1
    ((∃ p ∈ batch, ¬ inRange p) → exec .txPush s = .next (s.answered (.refused .badOperand) [])) ∧
    ((∀ p ∈ batch, inRange p) → s.cfg.ctrl.getLsbD 1 = true → s.linkUp = false →
      exec .txPush s = .next (s.answered (.ok (.pushed 0 0)) []))

/-- How samples are cut into batches does not matter (R260, R265): after a push that answers OK with the link usable, a
second push does to the stream what one push of the joined batch does. Where the second answers OK the counts add;
where it ends in a fatal error, so does the joined push, in the same state. -/
def Obligations.TxPushOfAJoinedBatch : Prop :=
  ∀ (s t u : State) (xs ys : List Sample) (c1 k1 : Nat),
    (s.cfg.ctrl.getLsbD 1 = false ∨ s.linkUp = true) →
    exec .txPush { s with port := [.samples xs] } = .next t → t.response = some (.ok (.pushed c1 k1)) →
    exec .txPush { t with port := [.samples ys] } = .next u →
    (∀ c2 k2, u.response = some (.ok (.pushed c2 k2)) →
      exec .txPush { s with port := [.samples (xs ++ ys)] } = .next
        { u with port := [.samples (xs ++ ys)], response := some (.ok (.pushed (c1 + c2) (k1 + k2))) }) ∧
    (∀ c, u.response = some (.fault c) →
      exec .txPush { s with port := [.samples (xs ++ ys)] } = .next { u with port := [.samples (xs ++ ys)] })

/-- In standalone mode with 4 samples per packet, 16 bits and interval 2, the first 8 samples make exactly one context
packet and then two data packets, whose sequences are 0 and 1 (R267, derived in the spec from R260 and R262). The sends
are accepted (log 4) and no timestamp is out of range. -/
def Obligations.FirstEightSamplesEndToEnd : Prop :=
  ∀ (s : State) (batch : List Sample) (draws : List Bool), s.phase = .run → s.cfg.ctrl.getLsbD 0 = false →
    s.cfg.ctrl.getLsbD 2 = false → (s.cfg.ctrl.getLsbD 1 = false ∨ s.linkUp = true) → s.cfg.spp = 4 →
    s.cfg.bitDepth = 16 → s.cfg.ctxInterval = 2 → (s.cfg.ctxSize = 72 ∨ s.cfg.ctxSize = 108) →
    s.txAccCount = 0 → s.txPacketCount = 0 → s.txSeq = 0 →
    s.txStatic.toNat % 2 ^ 20 = 0 → s.cfg.ctxStatic.toNat / 2 ^ 28 ≠ 1 → s.txStatic.toNat / 2 ^ 28 = 1 →
    s.cfg.ctxStatic.toNat % 2 ^ 20 = 0 →
    (∃ ts, s.advance = some ts) → (∃ ts, { s with tsPsr := s.tsPsr + 1 }.advance = some ts) →
    s.sendDraws = true :: true :: true :: draws → batch.length = 8 → (∀ p ∈ batch, s.laneOk p = true) →
    s.port = [.samples batch] →
    ∃ t ctx p0 p1, exec .txPush s = .next t ∧ t.response = some (.ok (.pushed 8 3)) ∧
      t.egress = s.egress ++ [ctx, p0, p1] ∧ unitKind ctx ≠ 1 ∧ unitKind p0 = 1 ∧ unitKind p1 = 1 ∧
      beRead p0 0 4 / 2 ^ 16 % 16 = 0 ∧ beRead p1 0 4 / 2 ^ 16 % 16 = 1

/-- R272: TX_SET_STATIC, OP 0x52, replaces the static pattern of later data packets, and refuses a pattern with bits 19:0
set. -/
def Obligations.TxSetStaticReplacesThePattern : Prop :=
  decode 0x52000000 = .ok .txSetStatic ∧ ∀ (s : State) (w : Word32), s.phase = .run →
    s.cfg.ctrl.getLsbD 0 = false → s.port = [.word (w.setWidth 64)] →
    (w.toNat % 2 ^ 20 = 0 → exec .txSetStatic s = .next ({ s with txStatic := w }.answered (.ok .unit) [])) ∧
    (w.toNat % 2 ^ 20 ≠ 0 → exec .txSetStatic s = .next (s.answered (.refused .badOperand) []))

/-! ### Receive framer -/

/-- RX_UNIT of a data unit that meets no mismatch answers its samples and timestamp, with the gap, static-change and
context events in that order; UDP_RX_DATAGRAM does so for the datagram cut to the receive buffer (R290, R292, R296,
R340; the buffer's size is log 5, that a longer datagram is cut is log 20, and a bit depth below 8 is log 12). -/
def Obligations.AcceptedDataUnit : Prop :=
  ∀ (s : State) (unit : List Byte) (req : Word32), s.phase = .run → s.cfg.ctrl.getLsbD 0 = true →
    s.port = [.bytes unit, .word (req.setWidth 64)] →
    (unitMismatch s unit = none → unitKind unit = 1 →
      exec .rxUnit s = .next (s.afterData unit req.toNat [])) ∧
    (let cut := unit.take s.rxBufBytes
     s.cfg.ctrl.getLsbD 1 = false → unitMismatch s cut = none → unitKind cut = 1 →
      exec .udpRxDatagram s = .next (s.afterData cut req.toNat []))

/-- RX_UNIT of a context unit that meets no mismatch holds the decoded context, yields no sample, and a standard packet's
legal timestamp becomes the reference (R302, R304, R307, R308; the standard layout is log 7). -/
def Obligations.AcceptedContextUnit : Prop :=
  ∀ (s : State) (unit : List Byte) (req : Word32), s.phase = .run → s.cfg.ctrl.getLsbD 0 = true →
    s.port = [.bytes unit, .word (req.setWidth 64)] → unitMismatch s unit = none → unitKind unit ≠ 1 →
    ∃ c, ctxDecode unit = some c ∧ exec .rxUnit s = .next (s.afterContext c unit.length [])

/-- A mismatched unit is fatal under policy fail, dropped without an event under ignore, dropped with a
warning under warn-and-withhold; under warn-and-forward a wrong length is dropped with a warning and a wrong stream
identifier or bit depth is accepted with a warning first. A dropped unit writes no state (R310, R312; where the bit depth
and the timestamp stand in a 108-byte unit is STD_CTX_LAYOUT, log 7; a bit depth below 8 is log 12). -/
def Obligations.MismatchedUnitFollowsThePolicy : Prop :=
  ∀ (s : State) (unit : List Byte) (req : Word32) (c : ProtoCode), s.phase = .run → s.cfg.ctrl.getLsbD 0 = true →
    s.port = [.bytes unit, .word (req.setWidth 64)] → unitMismatch s unit = some c →
    let warning : List Event := [.warn (.proto c) unit.length]
    let dropped := fun evs => s.answered (.ok (.received none)) evs
    let policy := s.cfg.ctrl.toNat / 8 % 4
    (policy = 0 → exec .rxUnit s = .next (s.faulted (.proto c) [])) ∧
    (policy = 1 → exec .rxUnit s = .next (dropped [])) ∧
    (policy = 3 → exec .rxUnit s = .next (dropped warning)) ∧
    (policy = 2 → c = .dataLength ∨ c = .ctxLength → exec .rxUnit s = .next (dropped warning)) ∧
    (policy = 2 → c = .streamId → exec .rxUnit s = .next (s.afterData unit req.toNat warning)) ∧
    (policy = 2 → c = .ctxBitDepth →
      ∃ x, ctxDecode unit = some x ∧ exec .rxUnit s = .next (s.afterContext x unit.length warning))

/-- After a data unit of sequence 2, units of sequence 4 and 5 raise exactly one gap event, observed 4 and expected 3; the
first data unit after reset, whatever its sequence, raises none (R294, derived in the spec from R292). -/
def Obligations.SkippedSequenceRaisesOneGap : Prop :=
  ∀ (s t u : State) (a b : List Byte) (req : Word32), s.phase = .run → s.cfg.ctrl.getLsbD 0 = true →
    unitMismatch s a = none → unitMismatch s b = none → unitKind a = 1 → unitKind b = 1 →
    exec .rxUnit { s with port := [.bytes a, .word (req.setWidth 64)] } = .next t →
    exec .rxUnit { t with port := [.bytes b, .word (req.setWidth 64)] } = .next u →
    let isGap := fun e : Event => match e with | .gap _ _ _ _ => true | _ => false
    (s.rxLastSeq = ⟨true, 2⟩ → beRead a 0 4 / 2 ^ 16 % 16 = 4 → beRead b 0 4 / 2 ^ 16 % 16 = 5 →
      t.events.filter isGap = [.gap s.rxOutIndex 4 3 a.length] ∧ u.events.filter isGap = []) ∧
    (s.rxLastSeq.valid = false → t.events.filter isGap = [])

/-- The lanes of a sample are I then Q, each the two's complement of its value, a 16-bit lane with its upper byte first;
so they are written, and so sample k of a unit is read behind its 20-byte header. What the sink puts on the wire the
source decodes: the payload bytes of samples in range, behind any 20-byte header of kind 1, are answered as those samples
(R103, R135, R260, R292, R297). -/
def Obligations.SentSamplesAreReceived : Prop :=
  (∀ i q : Int,
    let hi := fun v : Int => (BitVec.ofInt 16 v).extractLsb' 8 8
    let lo := fun v : Int => (BitVec.ofInt 16 v).extractLsb' 0 8
    sampleBytes 8 (i, q) = [BitVec.ofInt 8 i, BitVec.ofInt 8 q] ∧
      sampleBytes 16 (i, q) = [hi i, lo i, hi q, lo q]) ∧
  (∀ (unit : List Byte) (k : Nat),
    let byte := fun o : Nat => unit.getD o 0
    (20 + 2 * k + 2 ≤ unit.length →
      sampleAt 8 unit k = ((byte (20 + 2 * k)).toInt, (byte (20 + 2 * k + 1)).toInt)) ∧
    (20 + 4 * k + 4 ≤ unit.length →
      sampleAt 16 unit k = ((byte (20 + 4 * k) ++ byte (20 + 4 * k + 1)).toInt,
        (byte (20 + 4 * k + 2) ++ byte (20 + 4 * k + 3)).toInt))) ∧
  ∀ (s t : State) (header : List Byte) (batch : List Sample) (req : Word32), s.phase = .run →
    s.cfg.ctrl.getLsbD 0 = true → (s.cfg.bitDepth = 8 ∨ s.cfg.bitDepth = 16) → header.length = 20 →
    unitKind header = 1 → (∀ p ∈ batch, s.laneOk p = true) → batch.length ≤ req.toNat →
    let unit := header ++ batch.flatMap (sampleBytes s.cfg.bitDepth.toNat)
    unitMismatch s unit = none → s.port = [.bytes unit, .word (req.setWidth 64)] → exec .rxUnit s = .next t →
    ∃ d, t.response = some (.ok (.received (some d))) ∧ d.samples = batch

/-! ### Transport adapter -/

/-- R330, R332 and R338: TCP_RX_ACCEPT, OP 0x70, takes one client at a time, TCP_RX_BYTES, OP 0x71, appends to the stream
of a connected client, and TCP_RX_DISCONNECT, OP 0x73, empties the framing state, each with nothing else changed. -/
def Obligations.TcpConnectionCommands : Prop :=
  decode 0x70000000 = .ok .tcpRxAccept ∧ decode 0x71000000 = .ok .tcpRxBytes ∧
    decode 0x73000000 = .ok .tcpRxDisconnect ∧ ∀ s : State, s.phase = .run → s.cfg.ctrl.getLsbD 0 = true → s.cfg.ctrl.getLsbD 1 = true →
    (s.tcpPhase = .disconnected → exec .tcpRxAccept s = .next
      ({ s with tcpIn := [], tcpBuf := [], tcpNeed := 0, tcpPhase := .header }.answered (.ok .unit) [])) ∧
    (s.tcpPhase ≠ .disconnected → exec .tcpRxAccept s = .next (s.answered (.refused .wrongPhase) [])) ∧
    (∀ chunk, s.port = [.bytes chunk] → s.tcpPhase ≠ .disconnected →
      exec .tcpRxBytes s = .next ({ s with tcpIn := s.tcpIn ++ chunk }.answered (.ok .unit) [])) ∧
    (∀ chunk, s.port = [.bytes chunk] → s.tcpPhase = .disconnected →
      exec .tcpRxBytes s = .next (s.answered (.refused .wrongPhase) [])) ∧
    exec .tcpRxDisconnect s = .next
      ({ s with tcpIn := [], tcpBuf := [], tcpNeed := 0, tcpPhase := .disconnected }.answered (.ok .unit) [])

/-- TCP_RX_POLL answers NONE with no client, and where the bytes at hand complete no unit; the bytes of the partial unit
are then all held (R334, R335). -/
def Obligations.PollWithoutAWholeUnitKeepsTheBytes : Prop :=
  ∀ (s : State) (req : Word32), s.phase = .run → s.cfg.ctrl.getLsbD 0 = true → s.cfg.ctrl.getLsbD 1 = true →
    s.port = [.word (req.setWidth 64)] →
    let held := s.tcpBuf ++ s.tcpIn
    let words := beRead held 2 2
    (s.tcpPhase = .disconnected → exec .tcpRxPoll s = .next (s.answered .noPacket [])) ∧
    (s.tcpPhase = .header → held.length < 4 →
      exec .tcpRxPoll s = .next ({ s with tcpBuf := held, tcpIn := [] }.answered .noPacket [])) ∧
    (s.tcpPhase = .header → s.tcpBuf.length < 4 → 4 ≤ held.length → held.length < 4 * words →
      exec .tcpRxPoll s = .next
        ({ s with tcpBuf := held, tcpIn := [], tcpNeed := BitVec.ofNat 32 (4 * words), tcpPhase := .body
          }.answered .noPacket [])) ∧
    (s.tcpPhase = .body → held.length < s.tcpNeed.toNat →
      exec .tcpRxPoll s = .next ({ s with tcpBuf := held, tcpIn := [] }.answered .noPacket []))

/-- Where the bytes at hand begin with a whole data unit that meets no mismatch, TCP_RX_POLL takes exactly that unit off
the stream and answers as RX_UNIT answers for it (R144, R334). -/
def Obligations.PollDecodesAFramedDataUnit : Prop :=
  ∀ (s : State) (req : Word32), s.phase = .run → s.cfg.ctrl.getLsbD 0 = true → s.cfg.ctrl.getLsbD 1 = true →
    s.port = [.word (req.setWidth 64)] → s.tcpPhase = .header → s.tcpBuf.length < 4 →
    let held := s.tcpBuf ++ s.tcpIn
    let words := beRead held 2 2
    let unit := held.take (4 * words)
    4 ≤ held.length → words ≠ 0 → 4 * words ≤ held.length → unitMismatch s unit = none → unitKind unit = 1 →
    exec .tcpRxPoll s = .next
      ({ s with tcpBuf := [], tcpIn := held.drop (4 * words), tcpNeed := 0 }.afterData unit req.toNat [])

/-- TCP_RX_POLL performs the RX_UNIT step on each unit it frames: a data unit's answer or a fatal error ends it, and
after a context unit or a dropped unit it goes on as another poll with the events so far in front (R302, R334). A data
unit forwarded after a mismatch is one that RX_UNIT answers. -/
def Obligations.PollGoesOnPastUnitsWithoutData : Prop :=
  ∀ (s t : State) (req : Word32), s.phase = .run → s.cfg.ctrl.getLsbD 0 = true → s.cfg.ctrl.getLsbD 1 = true →
    s.port = [.word (req.setWidth 64)] → s.tcpPhase = .header → s.tcpBuf.length < 4 →
    let held := s.tcpBuf ++ s.tcpIn
    let words := beRead held 2 2
    let unit := held.take (4 * words)
    4 ≤ held.length → words ≠ 0 → 4 * words ≤ held.length →
    exec .rxUnit
      { s with
        tcpBuf := [], tcpIn := held.drop (4 * words), tcpNeed := 0
        port := [.bytes unit, .word (req.setWidth 64)] } = .next t →
    ((∃ c, t.response = some (.fault c)) → exec .tcpRxPoll s = .next { t with port := s.port }) ∧
    ((∃ d, t.response = some (.ok (.received (some d)))) → exec .tcpRxPoll s = .next { t with port := s.port }) ∧
    (t.response = some (.ok (.received none)) →
      ∃ u, exec .tcpRxPoll { t with port := s.port } = .next u ∧
        exec .tcpRxPoll s = .next { u with events := t.events ++ u.events })

/-- R336: a header word with word count 0 is answered NONE with the TCP_FRAMING warning, and the framing state is that of
a disconnection. -/
def Obligations.ZeroWordCountDisconnects : Prop :=
  ∀ (s : State) (req : Word32), s.phase = .run → s.cfg.ctrl.getLsbD 0 = true → s.cfg.ctrl.getLsbD 1 = true →
    s.port = [.word (req.setWidth 64)] → s.tcpPhase = .header → s.tcpBuf.length < 4 →
    let held := s.tcpBuf ++ s.tcpIn
    4 ≤ held.length → beRead held 2 2 = 0 →
    exec .tcpRxPoll s = .next
      ({ s with tcpIn := [], tcpBuf := [], tcpNeed := 0, tcpPhase := .disconnected }.answered .noPacket
        [.warn .tcpFraming 4])

/-- How the TCP stream is split does not matter (R335, derived in the spec from R332 and R334). Two chunks are as one chunk
of their concatenation; and a poll that finds no packet before a chunk arrives is as if only the poll after it had been
made, with its events in front. -/
def Obligations.TcpStreamSplitIsInvisible : Prop :=
  (∀ (s t u : State) (a b : List Byte), s.tcpPhase ≠ .disconnected →
    exec .tcpRxBytes { s with port := [.bytes a] } = .next t → t.response = some (.ok .unit) →
    exec .tcpRxBytes { t with port := [.bytes b] } = .next u →
    ∃ v, exec .tcpRxBytes { s with port := [.bytes (a ++ b)] } = .next v ∧
      u = { v with port := [.bytes b] }) ∧
  ∀ (s t u v : State) (chunk : List Byte) (req : Word32), s.phase = .run → s.cfg.ctrl.getLsbD 0 = true →
    s.cfg.ctrl.getLsbD 1 = true → s.tcpPhase ≠ .disconnected →
    exec .tcpRxPoll { s with port := [.word (req.setWidth 64)] } = .next t → t.response = some .noPacket →
    t.tcpPhase ≠ .disconnected →
    exec .tcpRxBytes { t with port := [.bytes chunk] } = .next u →
    exec .tcpRxPoll { u with port := [.word (req.setWidth 64)] } = .next v →
    ∃ w x, exec .tcpRxBytes { s with port := [.bytes chunk] } = .next w ∧
      exec .tcpRxPoll { w with port := [.word (req.setWidth 64)] } = .next x ∧
      x = { v with events := t.events ++ v.events }

/-- UDP_RX_DATAGRAM answers and changes the state as RX_UNIT does for the datagram's first RX_BUF_BYTES bytes, whatever
that parameter is (R340; log 5; that a longer datagram is cut is log 20). -/
def Obligations.UdpIsRxUnitOfTheCutDatagram : Prop :=
  ∀ (s : State) (dg : List Byte) (req : Word32), s.phase = .run → s.cfg.ctrl.getLsbD 0 = true →
    s.cfg.ctrl.getLsbD 1 = false → s.port = [.bytes dg, .word (req.setWidth 64)] →
    ∃ t, exec .rxUnit { s with port := [.bytes (dg.take s.rxBufBytes), .word (req.setWidth 64)] } = .next t ∧
      exec .udpRxDatagram s = .next { t with port := s.port }

/-- TX_LINK_DOWN and TX_LINK_UP write the link state and nothing else (R342, R343). -/
def Obligations.LinkCommandsWriteTheLink : Prop :=
  ∀ s : State, s.phase = .run → s.cfg.ctrl.getLsbD 0 = false → s.cfg.ctrl.getLsbD 1 = true →
    exec .txLinkDown s = .next ({ s with linkUp := false }.answered (.ok .unit) []) ∧
    exec .txLinkUp s = .next ({ s with linkUp := true }.answered (.ok .unit) [])

/-- R345: TRANSPORT_FAIL, OP 0x77, raises TRANSPORT_SETUP in CONFIG and RUN, in either direction. -/
def Obligations.TransportFailIsFatal : Prop :=
  decode 0x77000000 = .ok .transportFail ∧ ∀ s : State, s.phase ≠ .fault →
    exec .transportFail s = .next (s.faulted .transportSetup []) ∧ FatalCode.code .transportSetup = 0x20
end

