-- ==== Sys2Proof/Laws/Buffers.lean ====
section
/-! SUPPORT. What big-endian reading and writing, and the lanes of a sample, can do. -/

namespace Sys2Proof.Machine

open Sys2Proof

@[simp] theorem beNat_nil : beNat [] = 0 := rfl

theorem beNat_concat (l : List Byte) (b : Byte) : beNat (l ++ [b]) = beNat l * 256 + b.toNat := by
  simp [beNat, List.foldl_append]

/-- A longer sequence is the shorter one shifted up by the bytes that follow it. -/
theorem beNat_append (a b : List Byte) : beNat (a ++ b) = beNat a * 256 ^ b.length + beNat b := by
  induction b using List.reverseRecOn with
  | nil => simp
  | append_singleton b x ih =>
    rw [← List.append_assoc, beNat_concat, ih, beNat_concat, List.length_append]
    simp only [List.length_singleton, pow_succ]
    ring

theorem beNat_lt (l : List Byte) : beNat l < 256 ^ l.length := by
  induction l using List.reverseRecOn with
  | nil => simp
  | append_singleton l x ih =>
    have hx := x.isLt
    rw [beNat_concat, List.length_append, List.length_singleton, pow_succ]
    omega

theorem beRead_lt (buf : List Byte) (off n : Nat) : beRead buf off n < 256 ^ n := by
  refine lt_of_lt_of_le (beNat_lt _) (Nat.pow_le_pow_right (by decide) ?_)
  simp

@[simp] theorem beBytes_length (n v : Nat) : (beBytes n v).length = n := by
  induction n with
  | zero => rfl
  | succ n ih => simp [beBytes, ih]

/-- What is written is read back modulo its width. -/
theorem beNat_beBytes (n v : Nat) : beNat (beBytes n v) = v % 256 ^ n := by
  induction n with
  | zero => simp [beBytes, Nat.mod_one]
  | succ n ih =>
    have h := beNat_append [BitVec.ofNat 8 (v / 256 ^ n)] (beBytes n v)
    simp only [List.singleton_append, beBytes_length] at h
    rw [beBytes, h, ih, pow_succ, Nat.mod_mul]
    simp [beNat]
    ring

/-- A sequence is the bytes of the number it denotes. -/
theorem beBytes_beNat (l : List Byte) : beBytes l.length (beNat l) = l := by
  have key : ∀ (l : List Byte) (k : Nat), beBytes l.length (k * 256 ^ l.length + beNat l) = l := by
    intro l
    induction l with
    | nil => intro k; rfl
    | cons b l ih =>
      intro k
      have hb := beNat_append [b] l
      simp only [List.singleton_append] at hb
      have h1 : beNat [b] = b.toNat := by simp [beNat]
      have e : k * 256 ^ (l.length + 1) + beNat (b :: l) = (k * 256 + b.toNat) * 256 ^ l.length + beNat l := by
        rw [hb, h1, pow_succ]; ring
      have hp : 0 < 256 ^ l.length := Nat.pow_pos (by decide)
      have hd : ((k * 256 + b.toNat) * 256 ^ l.length + beNat l) / 256 ^ l.length = k * 256 + b.toNat := by
        rw [Nat.add_comm, Nat.add_mul_div_right _ _ hp, Nat.div_eq_of_lt (beNat_lt l), Nat.zero_add]
      rw [List.length_cons, beBytes, e, hd, ih]
      congr 1
      apply BitVec.eq_of_toNat_eq
      have := b.isLt
      simp only [BitVec.toNat_ofNat]
      omega
  simpa using key l 0

theorem beWrite_length (buf : List Byte) (off n v : Nat) (h : off + n ≤ buf.length) :
    (beWrite buf off n v).length = buf.length := by
  simp [beWrite]; omega

/-- Read after write at the same place. -/
theorem beRead_beWrite_same (buf : List Byte) (off n v : Nat) (h : off + n ≤ buf.length) (hv : v < 256 ^ n) :
    beRead (beWrite buf off n v) off n = v := by
  have ht : (buf.take off).length = off := by simp; omega
  have : ((beWrite buf off n v).drop off).take n = beBytes n v := by
    rw [beWrite, List.append_assoc, List.drop_append_of_le_length (by omega), List.drop_of_length_le (by omega),
      List.nil_append, List.take_append_of_le_length (by simp), List.take_of_length_le (by simp)]
  rw [beRead, this, beNat_beBytes, Nat.mod_eq_of_lt hv]

/-- A write leaves every disjoint place alone. -/
theorem beRead_beWrite_other (buf : List Byte) (off n v o m : Nat) (h : off + n ≤ buf.length)
    (hd : o + m ≤ off ∨ off + n ≤ o) : beRead (beWrite buf off n v) o m = beRead buf o m := by
  have key : ((beWrite buf off n v).drop o).take m = (buf.drop o).take m := by
    apply List.ext_getElem?
    intro i
    simp only [List.getElem?_take, List.getElem?_drop, beWrite]
    by_cases hi : i < m
    · simp only [hi, if_true]
      have ht : (buf.take off).length = off := by simp; omega
      rcases hd with hd | hd
      · rw [List.append_assoc, List.getElem?_append_left (by omega), List.getElem?_take, if_pos (by omega)]
      · rw [List.getElem?_append_right (by simp; omega)]
        simp only [List.length_append, ht, beBytes_length, List.getElem?_drop]
        congr 1
        omega
    · simp [hi]
  rw [beRead, key, beRead]

@[simp] theorem sampleBytes_length (bd : Nat) (p : Sample) : (sampleBytes bd p).length = 2 * (bd / 8) := by
  simp [sampleBytes]; omega

theorem flatMap_sampleBytes_length (bd : Nat) (l : List Sample) :
    (l.flatMap (sampleBytes bd)).length = l.length * (2 * (bd / 8)) := by
  induction l with
  | nil => simp
  | cons p l ih => simp [ih]; ring

/-- A lane in range is what its two's complement denotes. -/
theorem signedLane_laneBits (bd : Nat) (hb : 0 < bd) (i : Int) (h : laneInRange bd i = true) :
    signedLane bd (laneBits bd i) = i := by
  obtain ⟨n, rfl⟩ : ∃ n, bd = n + 1 := ⟨bd - 1, by omega⟩
  simp only [laneInRange, Nat.add_sub_cancel, decide_eq_true_eq] at h
  have hp : (0 : Int) < 2 ^ n := by positivity
  have e : (2 : Int) ^ (n + 1) = 2 * 2 ^ n := by rw [pow_succ]; ring
  have hn : ((2 ^ n : Nat) : Int) = (2 : Int) ^ n := by push_cast; rfl
  simp only [signedLane, laneBits, Nat.add_sub_cancel, e]
  rcases lt_or_ge i 0 with hi | hi
  · have hm : i % (2 * 2 ^ n) = i + 2 * 2 ^ n := by
      rw [← Int.add_emod_right]
      exact Int.emod_eq_of_lt (by omega) (by omega)
    rw [hm]
    have ht : ((i + 2 * 2 ^ n).toNat : Int) = i + 2 * 2 ^ n := Int.toNat_of_nonneg (by omega)
    rw [if_neg (by omega)]
    omega
  · have hm : i % (2 * 2 ^ n) = i := Int.emod_eq_of_lt hi (by omega)
    rw [hm]
    have ht : (i.toNat : Int) = i := Int.toNat_of_nonneg hi
    rw [if_pos (by omega)]
    exact ht

end Sys2Proof.Machine
end

