-- ==== Sys2Proof/Laws/State.lean ====
section
/-! SUPPORT. One lemma for each field of State under each named update, so that no later proof unfolds an update. -/

namespace Sys2Proof.Machine

open Sys2Proof

/-- What sends do to a state, accepted or not: the accepted packets appended to the egress stream, the draws moved. -/
def State.sends (s : State) (ps : List (List Byte)) (d : List Bool) (n : Nat) : State :=
  { s with egress := s.egress ++ ps, sendDraws := d, sendCount := n }

variable (s : State)

/-! ### `reply` -/

@[simp] theorem State.reply_phase (r : Response) (evs : List Event) : (s.reply r evs).phase = s.phase := rfl
@[simp] theorem State.reply_cfg (r : Response) (evs : List Event) : (s.reply r evs).cfg = s.cfg := rfl
@[simp] theorem State.reply_errCode (r : Response) (evs : List Event) : (s.reply r evs).errCode = s.errCode := rfl
@[simp] theorem State.reply_txSeq (r : Response) (evs : List Event) : (s.reply r evs).txSeq = s.txSeq := rfl
@[simp] theorem State.reply_ctxSeq (r : Response) (evs : List Event) : (s.reply r evs).ctxSeq = s.ctxSeq := rfl
@[simp] theorem State.reply_txAccCount (r : Response) (evs : List Event) :
    (s.reply r evs).txAccCount = s.txAccCount := rfl
@[simp] theorem State.reply_txAcc (r : Response) (evs : List Event) : (s.reply r evs).txAcc = s.txAcc := rfl
@[simp] theorem State.reply_txStatic (r : Response) (evs : List Event) : (s.reply r evs).txStatic = s.txStatic := rfl
@[simp] theorem State.reply_txPacketCount (r : Response) (evs : List Event) :
    (s.reply r evs).txPacketCount = s.txPacketCount := rfl
@[simp] theorem State.reply_tsRef (r : Response) (evs : List Event) : (s.reply r evs).tsRef = s.tsRef := rfl
@[simp] theorem State.reply_tsPsr (r : Response) (evs : List Event) : (s.reply r evs).tsPsr = s.tsPsr := rfl
@[simp] theorem State.reply_linkUp (r : Response) (evs : List Event) : (s.reply r evs).linkUp = s.linkUp := rfl
@[simp] theorem State.reply_rxLastSeq (r : Response) (evs : List Event) :
    (s.reply r evs).rxLastSeq = s.rxLastSeq := rfl
@[simp] theorem State.reply_rxLastStatic (r : Response) (evs : List Event) :
    (s.reply r evs).rxLastStatic = s.rxLastStatic := rfl
@[simp] theorem State.reply_pending (r : Response) (evs : List Event) : (s.reply r evs).pending = s.pending := rfl
@[simp] theorem State.reply_rxOutIndex (r : Response) (evs : List Event) :
    (s.reply r evs).rxOutIndex = s.rxOutIndex := rfl
@[simp] theorem State.reply_tcpIn (r : Response) (evs : List Event) : (s.reply r evs).tcpIn = s.tcpIn := rfl
@[simp] theorem State.reply_tcpPhase (r : Response) (evs : List Event) : (s.reply r evs).tcpPhase = s.tcpPhase := rfl
@[simp] theorem State.reply_tcpBuf (r : Response) (evs : List Event) : (s.reply r evs).tcpBuf = s.tcpBuf := rfl
@[simp] theorem State.reply_tcpNeed (r : Response) (evs : List Event) : (s.reply r evs).tcpNeed = s.tcpNeed := rfl
@[simp] theorem State.reply_cmdq (r : Response) (evs : List Event) : (s.reply r evs).cmdq = s.cmdq := rfl
@[simp] theorem State.reply_port (r : Response) (evs : List Event) : (s.reply r evs).port = s.port := rfl
@[simp] theorem State.reply_response (r : Response) (evs : List Event) : (s.reply r evs).response = some r := rfl
@[simp] theorem State.reply_events (r : Response) (evs : List Event) : (s.reply r evs).events = evs := rfl
@[simp] theorem State.reply_egress (r : Response) (evs : List Event) : (s.reply r evs).egress = s.egress := rfl
@[simp] theorem State.reply_sendDraws (r : Response) (evs : List Event) :
    (s.reply r evs).sendDraws = s.sendDraws := rfl
@[simp] theorem State.reply_sendCount (r : Response) (evs : List Event) :
    (s.reply r evs).sendCount = s.sendCount := rfl
@[simp] theorem State.reply_rxBufBytes (r : Response) (evs : List Event) :
    (s.reply r evs).rxBufBytes = s.rxBufBytes := rfl

/-! ### `ok` -/

@[simp] theorem State.ok_phase (v : Values) : (s.ok v).phase = s.phase := rfl
@[simp] theorem State.ok_cfg (v : Values) : (s.ok v).cfg = s.cfg := rfl
@[simp] theorem State.ok_errCode (v : Values) : (s.ok v).errCode = s.errCode := rfl
@[simp] theorem State.ok_txSeq (v : Values) : (s.ok v).txSeq = s.txSeq := rfl
@[simp] theorem State.ok_ctxSeq (v : Values) : (s.ok v).ctxSeq = s.ctxSeq := rfl
@[simp] theorem State.ok_txAccCount (v : Values) : (s.ok v).txAccCount = s.txAccCount := rfl
@[simp] theorem State.ok_txAcc (v : Values) : (s.ok v).txAcc = s.txAcc := rfl
@[simp] theorem State.ok_txStatic (v : Values) : (s.ok v).txStatic = s.txStatic := rfl
@[simp] theorem State.ok_txPacketCount (v : Values) : (s.ok v).txPacketCount = s.txPacketCount := rfl
@[simp] theorem State.ok_tsRef (v : Values) : (s.ok v).tsRef = s.tsRef := rfl
@[simp] theorem State.ok_tsPsr (v : Values) : (s.ok v).tsPsr = s.tsPsr := rfl
@[simp] theorem State.ok_linkUp (v : Values) : (s.ok v).linkUp = s.linkUp := rfl
@[simp] theorem State.ok_rxLastSeq (v : Values) : (s.ok v).rxLastSeq = s.rxLastSeq := rfl
@[simp] theorem State.ok_rxLastStatic (v : Values) : (s.ok v).rxLastStatic = s.rxLastStatic := rfl
@[simp] theorem State.ok_pending (v : Values) : (s.ok v).pending = s.pending := rfl
@[simp] theorem State.ok_rxOutIndex (v : Values) : (s.ok v).rxOutIndex = s.rxOutIndex := rfl
@[simp] theorem State.ok_tcpIn (v : Values) : (s.ok v).tcpIn = s.tcpIn := rfl
@[simp] theorem State.ok_tcpPhase (v : Values) : (s.ok v).tcpPhase = s.tcpPhase := rfl
@[simp] theorem State.ok_tcpBuf (v : Values) : (s.ok v).tcpBuf = s.tcpBuf := rfl
@[simp] theorem State.ok_tcpNeed (v : Values) : (s.ok v).tcpNeed = s.tcpNeed := rfl
@[simp] theorem State.ok_cmdq (v : Values) : (s.ok v).cmdq = s.cmdq := rfl
@[simp] theorem State.ok_port (v : Values) : (s.ok v).port = s.port := rfl
@[simp] theorem State.ok_response (v : Values) : (s.ok v).response = some (.ok v) := rfl
@[simp] theorem State.ok_events (v : Values) : (s.ok v).events = [] := rfl
@[simp] theorem State.ok_egress (v : Values) : (s.ok v).egress = s.egress := rfl
@[simp] theorem State.ok_sendDraws (v : Values) : (s.ok v).sendDraws = s.sendDraws := rfl
@[simp] theorem State.ok_sendCount (v : Values) : (s.ok v).sendCount = s.sendCount := rfl
@[simp] theorem State.ok_rxBufBytes (v : Values) : (s.ok v).rxBufBytes = s.rxBufBytes := rfl

/-! ### `refuse` -/

@[simp] theorem State.refuse_phase (c : RefusalCode) : (s.refuse c).phase = s.phase := rfl
@[simp] theorem State.refuse_cfg (c : RefusalCode) : (s.refuse c).cfg = s.cfg := rfl
@[simp] theorem State.refuse_errCode (c : RefusalCode) : (s.refuse c).errCode = s.errCode := rfl
@[simp] theorem State.refuse_txSeq (c : RefusalCode) : (s.refuse c).txSeq = s.txSeq := rfl
@[simp] theorem State.refuse_ctxSeq (c : RefusalCode) : (s.refuse c).ctxSeq = s.ctxSeq := rfl
@[simp] theorem State.refuse_txAccCount (c : RefusalCode) : (s.refuse c).txAccCount = s.txAccCount := rfl
@[simp] theorem State.refuse_txAcc (c : RefusalCode) : (s.refuse c).txAcc = s.txAcc := rfl
@[simp] theorem State.refuse_txStatic (c : RefusalCode) : (s.refuse c).txStatic = s.txStatic := rfl
@[simp] theorem State.refuse_txPacketCount (c : RefusalCode) : (s.refuse c).txPacketCount = s.txPacketCount := rfl
@[simp] theorem State.refuse_tsRef (c : RefusalCode) : (s.refuse c).tsRef = s.tsRef := rfl
@[simp] theorem State.refuse_tsPsr (c : RefusalCode) : (s.refuse c).tsPsr = s.tsPsr := rfl
@[simp] theorem State.refuse_linkUp (c : RefusalCode) : (s.refuse c).linkUp = s.linkUp := rfl
@[simp] theorem State.refuse_rxLastSeq (c : RefusalCode) : (s.refuse c).rxLastSeq = s.rxLastSeq := rfl
@[simp] theorem State.refuse_rxLastStatic (c : RefusalCode) : (s.refuse c).rxLastStatic = s.rxLastStatic := rfl
@[simp] theorem State.refuse_pending (c : RefusalCode) : (s.refuse c).pending = s.pending := rfl
@[simp] theorem State.refuse_rxOutIndex (c : RefusalCode) : (s.refuse c).rxOutIndex = s.rxOutIndex := rfl
@[simp] theorem State.refuse_tcpIn (c : RefusalCode) : (s.refuse c).tcpIn = s.tcpIn := rfl
@[simp] theorem State.refuse_tcpPhase (c : RefusalCode) : (s.refuse c).tcpPhase = s.tcpPhase := rfl
@[simp] theorem State.refuse_tcpBuf (c : RefusalCode) : (s.refuse c).tcpBuf = s.tcpBuf := rfl
@[simp] theorem State.refuse_tcpNeed (c : RefusalCode) : (s.refuse c).tcpNeed = s.tcpNeed := rfl
@[simp] theorem State.refuse_cmdq (c : RefusalCode) : (s.refuse c).cmdq = s.cmdq := rfl
@[simp] theorem State.refuse_port (c : RefusalCode) : (s.refuse c).port = s.port := rfl
@[simp] theorem State.refuse_response (c : RefusalCode) : (s.refuse c).response = some (.refused c) := rfl
@[simp] theorem State.refuse_events (c : RefusalCode) : (s.refuse c).events = [] := rfl
@[simp] theorem State.refuse_egress (c : RefusalCode) : (s.refuse c).egress = s.egress := rfl
@[simp] theorem State.refuse_sendDraws (c : RefusalCode) : (s.refuse c).sendDraws = s.sendDraws := rfl
@[simp] theorem State.refuse_sendCount (c : RefusalCode) : (s.refuse c).sendCount = s.sendCount := rfl
@[simp] theorem State.refuse_rxBufBytes (c : RefusalCode) : (s.refuse c).rxBufBytes = s.rxBufBytes := rfl

/-! ### `raiseFatal` -/

@[simp] theorem State.raiseFatal_phase (c : FatalCode) (evs : List Event) : (s.raiseFatal c evs).phase = .fault := rfl
@[simp] theorem State.raiseFatal_cfg (c : FatalCode) (evs : List Event) : (s.raiseFatal c evs).cfg = s.cfg := rfl
@[simp] theorem State.raiseFatal_errCode (c : FatalCode) (evs : List Event) :
    (s.raiseFatal c evs).errCode = c.code := rfl
@[simp] theorem State.raiseFatal_txSeq (c : FatalCode) (evs : List Event) :
    (s.raiseFatal c evs).txSeq = s.txSeq := rfl
@[simp] theorem State.raiseFatal_ctxSeq (c : FatalCode) (evs : List Event) :
    (s.raiseFatal c evs).ctxSeq = s.ctxSeq := rfl
@[simp] theorem State.raiseFatal_txAccCount (c : FatalCode) (evs : List Event) :
    (s.raiseFatal c evs).txAccCount = s.txAccCount := rfl
@[simp] theorem State.raiseFatal_txAcc (c : FatalCode) (evs : List Event) :
    (s.raiseFatal c evs).txAcc = s.txAcc := rfl
@[simp] theorem State.raiseFatal_txStatic (c : FatalCode) (evs : List Event) :
    (s.raiseFatal c evs).txStatic = s.txStatic := rfl
@[simp] theorem State.raiseFatal_txPacketCount (c : FatalCode) (evs : List Event) :
    (s.raiseFatal c evs).txPacketCount = s.txPacketCount := rfl
@[simp] theorem State.raiseFatal_tsRef (c : FatalCode) (evs : List Event) :
    (s.raiseFatal c evs).tsRef = s.tsRef := rfl
@[simp] theorem State.raiseFatal_tsPsr (c : FatalCode) (evs : List Event) :
    (s.raiseFatal c evs).tsPsr = s.tsPsr := rfl
@[simp] theorem State.raiseFatal_linkUp (c : FatalCode) (evs : List Event) :
    (s.raiseFatal c evs).linkUp = s.linkUp := rfl
@[simp] theorem State.raiseFatal_rxLastSeq (c : FatalCode) (evs : List Event) :
    (s.raiseFatal c evs).rxLastSeq = s.rxLastSeq := rfl
@[simp] theorem State.raiseFatal_rxLastStatic (c : FatalCode) (evs : List Event) :
    (s.raiseFatal c evs).rxLastStatic = s.rxLastStatic := rfl
@[simp] theorem State.raiseFatal_pending (c : FatalCode) (evs : List Event) :
    (s.raiseFatal c evs).pending = s.pending := rfl
@[simp] theorem State.raiseFatal_rxOutIndex (c : FatalCode) (evs : List Event) :
    (s.raiseFatal c evs).rxOutIndex = s.rxOutIndex := rfl
@[simp] theorem State.raiseFatal_tcpIn (c : FatalCode) (evs : List Event) :
    (s.raiseFatal c evs).tcpIn = s.tcpIn := rfl
@[simp] theorem State.raiseFatal_tcpPhase (c : FatalCode) (evs : List Event) :
    (s.raiseFatal c evs).tcpPhase = s.tcpPhase := rfl
@[simp] theorem State.raiseFatal_tcpBuf (c : FatalCode) (evs : List Event) :
    (s.raiseFatal c evs).tcpBuf = s.tcpBuf := rfl
@[simp] theorem State.raiseFatal_tcpNeed (c : FatalCode) (evs : List Event) :
    (s.raiseFatal c evs).tcpNeed = s.tcpNeed := rfl
@[simp] theorem State.raiseFatal_cmdq (c : FatalCode) (evs : List Event) : (s.raiseFatal c evs).cmdq = s.cmdq := rfl
@[simp] theorem State.raiseFatal_port (c : FatalCode) (evs : List Event) : (s.raiseFatal c evs).port = s.port := rfl
@[simp] theorem State.raiseFatal_response (c : FatalCode) (evs : List Event) :
    (s.raiseFatal c evs).response = some (.fault c) := rfl
@[simp] theorem State.raiseFatal_events (c : FatalCode) (evs : List Event) : (s.raiseFatal c evs).events = evs := rfl
@[simp] theorem State.raiseFatal_egress (c : FatalCode) (evs : List Event) :
    (s.raiseFatal c evs).egress = s.egress := rfl
@[simp] theorem State.raiseFatal_sendDraws (c : FatalCode) (evs : List Event) :
    (s.raiseFatal c evs).sendDraws = s.sendDraws := rfl
@[simp] theorem State.raiseFatal_sendCount (c : FatalCode) (evs : List Event) :
    (s.raiseFatal c evs).sendCount = s.sendCount := rfl
@[simp] theorem State.raiseFatal_rxBufBytes (c : FatalCode) (evs : List Event) :
    (s.raiseFatal c evs).rxBufBytes = s.rxBufBytes := rfl

/-! ### `setTime` -/

@[simp] theorem State.setTime_phase (f : Word32) (g : Word64) : (s.setTime f g).phase = s.phase := rfl
@[simp] theorem State.setTime_cfg (f : Word32) (g : Word64) : (s.setTime f g).cfg = s.cfg := rfl
@[simp] theorem State.setTime_errCode (f : Word32) (g : Word64) : (s.setTime f g).errCode = s.errCode := rfl
@[simp] theorem State.setTime_txSeq (f : Word32) (g : Word64) : (s.setTime f g).txSeq = s.txSeq := rfl
@[simp] theorem State.setTime_ctxSeq (f : Word32) (g : Word64) : (s.setTime f g).ctxSeq = s.ctxSeq := rfl
@[simp] theorem State.setTime_txAccCount (f : Word32) (g : Word64) : (s.setTime f g).txAccCount = s.txAccCount := rfl
@[simp] theorem State.setTime_txAcc (f : Word32) (g : Word64) : (s.setTime f g).txAcc = s.txAcc := rfl
@[simp] theorem State.setTime_txStatic (f : Word32) (g : Word64) : (s.setTime f g).txStatic = s.txStatic := rfl
@[simp] theorem State.setTime_txPacketCount (f : Word32) (g : Word64) :
    (s.setTime f g).txPacketCount = s.txPacketCount := rfl
@[simp] theorem State.setTime_tsRef (f : Word32) (g : Word64) : (s.setTime f g).tsRef = ⟨f, g⟩ := rfl
@[simp] theorem State.setTime_tsPsr (f : Word32) (g : Word64) : (s.setTime f g).tsPsr = 0 := rfl
@[simp] theorem State.setTime_linkUp (f : Word32) (g : Word64) : (s.setTime f g).linkUp = s.linkUp := rfl
@[simp] theorem State.setTime_rxLastSeq (f : Word32) (g : Word64) : (s.setTime f g).rxLastSeq = s.rxLastSeq := rfl
@[simp] theorem State.setTime_rxLastStatic (f : Word32) (g : Word64) :
    (s.setTime f g).rxLastStatic = s.rxLastStatic := rfl
@[simp] theorem State.setTime_pending (f : Word32) (g : Word64) : (s.setTime f g).pending = s.pending := rfl
@[simp] theorem State.setTime_rxOutIndex (f : Word32) (g : Word64) : (s.setTime f g).rxOutIndex = s.rxOutIndex := rfl
@[simp] theorem State.setTime_tcpIn (f : Word32) (g : Word64) : (s.setTime f g).tcpIn = s.tcpIn := rfl
@[simp] theorem State.setTime_tcpPhase (f : Word32) (g : Word64) : (s.setTime f g).tcpPhase = s.tcpPhase := rfl
@[simp] theorem State.setTime_tcpBuf (f : Word32) (g : Word64) : (s.setTime f g).tcpBuf = s.tcpBuf := rfl
@[simp] theorem State.setTime_tcpNeed (f : Word32) (g : Word64) : (s.setTime f g).tcpNeed = s.tcpNeed := rfl
@[simp] theorem State.setTime_cmdq (f : Word32) (g : Word64) : (s.setTime f g).cmdq = s.cmdq := rfl
@[simp] theorem State.setTime_port (f : Word32) (g : Word64) : (s.setTime f g).port = s.port := rfl
@[simp] theorem State.setTime_response (f : Word32) (g : Word64) : (s.setTime f g).response = s.response := rfl
@[simp] theorem State.setTime_events (f : Word32) (g : Word64) : (s.setTime f g).events = s.events := rfl
@[simp] theorem State.setTime_egress (f : Word32) (g : Word64) : (s.setTime f g).egress = s.egress := rfl
@[simp] theorem State.setTime_sendDraws (f : Word32) (g : Word64) : (s.setTime f g).sendDraws = s.sendDraws := rfl
@[simp] theorem State.setTime_sendCount (f : Word32) (g : Word64) : (s.setTime f g).sendCount = s.sendCount := rfl
@[simp] theorem State.setTime_rxBufBytes (f : Word32) (g : Word64) : (s.setTime f g).rxBufBytes = s.rxBufBytes := rfl

/-! ### `tick` -/

@[simp] theorem State.tick_phase : (s.tick).phase = s.phase := rfl
@[simp] theorem State.tick_cfg : (s.tick).cfg = s.cfg := rfl
@[simp] theorem State.tick_errCode : (s.tick).errCode = s.errCode := rfl
@[simp] theorem State.tick_txSeq : (s.tick).txSeq = s.txSeq := rfl
@[simp] theorem State.tick_ctxSeq : (s.tick).ctxSeq = s.ctxSeq := rfl
@[simp] theorem State.tick_txAccCount : (s.tick).txAccCount = s.txAccCount := rfl
@[simp] theorem State.tick_txAcc : (s.tick).txAcc = s.txAcc := rfl
@[simp] theorem State.tick_txStatic : (s.tick).txStatic = s.txStatic := rfl
@[simp] theorem State.tick_txPacketCount : (s.tick).txPacketCount = s.txPacketCount := rfl
@[simp] theorem State.tick_tsRef : (s.tick).tsRef = s.tsRef := rfl
@[simp] theorem State.tick_tsPsr : (s.tick).tsPsr = s.tsPsr + 1 := rfl
@[simp] theorem State.tick_linkUp : (s.tick).linkUp = s.linkUp := rfl
@[simp] theorem State.tick_rxLastSeq : (s.tick).rxLastSeq = s.rxLastSeq := rfl
@[simp] theorem State.tick_rxLastStatic : (s.tick).rxLastStatic = s.rxLastStatic := rfl
@[simp] theorem State.tick_pending : (s.tick).pending = s.pending := rfl
@[simp] theorem State.tick_rxOutIndex : (s.tick).rxOutIndex = s.rxOutIndex := rfl
@[simp] theorem State.tick_tcpIn : (s.tick).tcpIn = s.tcpIn := rfl
@[simp] theorem State.tick_tcpPhase : (s.tick).tcpPhase = s.tcpPhase := rfl
@[simp] theorem State.tick_tcpBuf : (s.tick).tcpBuf = s.tcpBuf := rfl
@[simp] theorem State.tick_tcpNeed : (s.tick).tcpNeed = s.tcpNeed := rfl
@[simp] theorem State.tick_cmdq : (s.tick).cmdq = s.cmdq := rfl
@[simp] theorem State.tick_port : (s.tick).port = s.port := rfl
@[simp] theorem State.tick_response : (s.tick).response = s.response := rfl
@[simp] theorem State.tick_events : (s.tick).events = s.events := rfl
@[simp] theorem State.tick_egress : (s.tick).egress = s.egress := rfl
@[simp] theorem State.tick_sendDraws : (s.tick).sendDraws = s.sendDraws := rfl
@[simp] theorem State.tick_sendCount : (s.tick).sendCount = s.sendCount := rfl
@[simp] theorem State.tick_rxBufBytes : (s.tick).rxBufBytes = s.rxBufBytes := rfl

/-! ### `clearTcp` -/

@[simp] theorem State.clearTcp_phase (p : TcpPhase) : (s.clearTcp p).phase = s.phase := rfl
@[simp] theorem State.clearTcp_cfg (p : TcpPhase) : (s.clearTcp p).cfg = s.cfg := rfl
@[simp] theorem State.clearTcp_errCode (p : TcpPhase) : (s.clearTcp p).errCode = s.errCode := rfl
@[simp] theorem State.clearTcp_txSeq (p : TcpPhase) : (s.clearTcp p).txSeq = s.txSeq := rfl
@[simp] theorem State.clearTcp_ctxSeq (p : TcpPhase) : (s.clearTcp p).ctxSeq = s.ctxSeq := rfl
@[simp] theorem State.clearTcp_txAccCount (p : TcpPhase) : (s.clearTcp p).txAccCount = s.txAccCount := rfl
@[simp] theorem State.clearTcp_txAcc (p : TcpPhase) : (s.clearTcp p).txAcc = s.txAcc := rfl
@[simp] theorem State.clearTcp_txStatic (p : TcpPhase) : (s.clearTcp p).txStatic = s.txStatic := rfl
@[simp] theorem State.clearTcp_txPacketCount (p : TcpPhase) : (s.clearTcp p).txPacketCount = s.txPacketCount := rfl
@[simp] theorem State.clearTcp_tsRef (p : TcpPhase) : (s.clearTcp p).tsRef = s.tsRef := rfl
@[simp] theorem State.clearTcp_tsPsr (p : TcpPhase) : (s.clearTcp p).tsPsr = s.tsPsr := rfl
@[simp] theorem State.clearTcp_linkUp (p : TcpPhase) : (s.clearTcp p).linkUp = s.linkUp := rfl
@[simp] theorem State.clearTcp_rxLastSeq (p : TcpPhase) : (s.clearTcp p).rxLastSeq = s.rxLastSeq := rfl
@[simp] theorem State.clearTcp_rxLastStatic (p : TcpPhase) : (s.clearTcp p).rxLastStatic = s.rxLastStatic := rfl
@[simp] theorem State.clearTcp_pending (p : TcpPhase) : (s.clearTcp p).pending = s.pending := rfl
@[simp] theorem State.clearTcp_rxOutIndex (p : TcpPhase) : (s.clearTcp p).rxOutIndex = s.rxOutIndex := rfl
@[simp] theorem State.clearTcp_tcpIn (p : TcpPhase) : (s.clearTcp p).tcpIn = [] := rfl
@[simp] theorem State.clearTcp_tcpPhase (p : TcpPhase) : (s.clearTcp p).tcpPhase = p := rfl
@[simp] theorem State.clearTcp_tcpBuf (p : TcpPhase) : (s.clearTcp p).tcpBuf = [] := rfl
@[simp] theorem State.clearTcp_tcpNeed (p : TcpPhase) : (s.clearTcp p).tcpNeed = 0 := rfl
@[simp] theorem State.clearTcp_cmdq (p : TcpPhase) : (s.clearTcp p).cmdq = s.cmdq := rfl
@[simp] theorem State.clearTcp_port (p : TcpPhase) : (s.clearTcp p).port = s.port := rfl
@[simp] theorem State.clearTcp_response (p : TcpPhase) : (s.clearTcp p).response = s.response := rfl
@[simp] theorem State.clearTcp_events (p : TcpPhase) : (s.clearTcp p).events = s.events := rfl
@[simp] theorem State.clearTcp_egress (p : TcpPhase) : (s.clearTcp p).egress = s.egress := rfl
@[simp] theorem State.clearTcp_sendDraws (p : TcpPhase) : (s.clearTcp p).sendDraws = s.sendDraws := rfl
@[simp] theorem State.clearTcp_sendCount (p : TcpPhase) : (s.clearTcp p).sendCount = s.sendCount := rfl
@[simp] theorem State.clearTcp_rxBufBytes (p : TcpPhase) : (s.clearTcp p).rxBufBytes = s.rxBufBytes := rfl

/-! ### `takeSample` -/

@[simp] theorem State.takeSample_phase (p : Sample) : (s.takeSample p).phase = s.phase := rfl
@[simp] theorem State.takeSample_cfg (p : Sample) : (s.takeSample p).cfg = s.cfg := rfl
@[simp] theorem State.takeSample_errCode (p : Sample) : (s.takeSample p).errCode = s.errCode := rfl
@[simp] theorem State.takeSample_txSeq (p : Sample) : (s.takeSample p).txSeq = s.txSeq := rfl
@[simp] theorem State.takeSample_ctxSeq (p : Sample) : (s.takeSample p).ctxSeq = s.ctxSeq := rfl
@[simp] theorem State.takeSample_txAccCount (p : Sample) : (s.takeSample p).txAccCount = s.txAccCount + 1 := rfl
@[simp] theorem State.takeSample_txAcc (p : Sample) :
    (s.takeSample p).txAcc = s.txAcc.take (s.txAccCount.toNat * s.sampleSize) ++ sampleBytes s.depth p := rfl
@[simp] theorem State.takeSample_txStatic (p : Sample) : (s.takeSample p).txStatic = s.txStatic := rfl
@[simp] theorem State.takeSample_txPacketCount (p : Sample) : (s.takeSample p).txPacketCount = s.txPacketCount := rfl
@[simp] theorem State.takeSample_tsRef (p : Sample) : (s.takeSample p).tsRef = s.tsRef := rfl
@[simp] theorem State.takeSample_tsPsr (p : Sample) : (s.takeSample p).tsPsr = s.tsPsr := rfl
@[simp] theorem State.takeSample_linkUp (p : Sample) : (s.takeSample p).linkUp = s.linkUp := rfl
@[simp] theorem State.takeSample_rxLastSeq (p : Sample) : (s.takeSample p).rxLastSeq = s.rxLastSeq := rfl
@[simp] theorem State.takeSample_rxLastStatic (p : Sample) : (s.takeSample p).rxLastStatic = s.rxLastStatic := rfl
@[simp] theorem State.takeSample_pending (p : Sample) : (s.takeSample p).pending = s.pending := rfl
@[simp] theorem State.takeSample_rxOutIndex (p : Sample) : (s.takeSample p).rxOutIndex = s.rxOutIndex := rfl
@[simp] theorem State.takeSample_tcpIn (p : Sample) : (s.takeSample p).tcpIn = s.tcpIn := rfl
@[simp] theorem State.takeSample_tcpPhase (p : Sample) : (s.takeSample p).tcpPhase = s.tcpPhase := rfl
@[simp] theorem State.takeSample_tcpBuf (p : Sample) : (s.takeSample p).tcpBuf = s.tcpBuf := rfl
@[simp] theorem State.takeSample_tcpNeed (p : Sample) : (s.takeSample p).tcpNeed = s.tcpNeed := rfl
@[simp] theorem State.takeSample_cmdq (p : Sample) : (s.takeSample p).cmdq = s.cmdq := rfl
@[simp] theorem State.takeSample_port (p : Sample) : (s.takeSample p).port = s.port := rfl
@[simp] theorem State.takeSample_response (p : Sample) : (s.takeSample p).response = s.response := rfl
@[simp] theorem State.takeSample_events (p : Sample) : (s.takeSample p).events = s.events := rfl
@[simp] theorem State.takeSample_egress (p : Sample) : (s.takeSample p).egress = s.egress := rfl
@[simp] theorem State.takeSample_sendDraws (p : Sample) : (s.takeSample p).sendDraws = s.sendDraws := rfl
@[simp] theorem State.takeSample_sendCount (p : Sample) : (s.takeSample p).sendCount = s.sendCount := rfl
@[simp] theorem State.takeSample_rxBufBytes (p : Sample) : (s.takeSample p).rxBufBytes = s.rxBufBytes := rfl

/-! ### `contextSent` -/

@[simp] theorem State.contextSent_phase : (s.contextSent).phase = s.phase := rfl
@[simp] theorem State.contextSent_cfg : (s.contextSent).cfg = s.cfg := rfl
@[simp] theorem State.contextSent_errCode : (s.contextSent).errCode = s.errCode := rfl
@[simp] theorem State.contextSent_txSeq : (s.contextSent).txSeq = s.txSeq := rfl
@[simp] theorem State.contextSent_ctxSeq : (s.contextSent).ctxSeq = s.ctxSeq + 1 := rfl
@[simp] theorem State.contextSent_txAccCount : (s.contextSent).txAccCount = s.txAccCount := rfl
@[simp] theorem State.contextSent_txAcc : (s.contextSent).txAcc = s.txAcc := rfl
@[simp] theorem State.contextSent_txStatic : (s.contextSent).txStatic = s.txStatic := rfl
@[simp] theorem State.contextSent_txPacketCount : (s.contextSent).txPacketCount = s.txPacketCount := rfl
@[simp] theorem State.contextSent_tsRef : (s.contextSent).tsRef = s.tsRef := rfl
@[simp] theorem State.contextSent_tsPsr : (s.contextSent).tsPsr = s.tsPsr := rfl
@[simp] theorem State.contextSent_linkUp : (s.contextSent).linkUp = s.linkUp := rfl
@[simp] theorem State.contextSent_rxLastSeq : (s.contextSent).rxLastSeq = s.rxLastSeq := rfl
@[simp] theorem State.contextSent_rxLastStatic : (s.contextSent).rxLastStatic = s.rxLastStatic := rfl
@[simp] theorem State.contextSent_pending : (s.contextSent).pending = s.pending := rfl
@[simp] theorem State.contextSent_rxOutIndex : (s.contextSent).rxOutIndex = s.rxOutIndex := rfl
@[simp] theorem State.contextSent_tcpIn : (s.contextSent).tcpIn = s.tcpIn := rfl
@[simp] theorem State.contextSent_tcpPhase : (s.contextSent).tcpPhase = s.tcpPhase := rfl
@[simp] theorem State.contextSent_tcpBuf : (s.contextSent).tcpBuf = s.tcpBuf := rfl
@[simp] theorem State.contextSent_tcpNeed : (s.contextSent).tcpNeed = s.tcpNeed := rfl
@[simp] theorem State.contextSent_cmdq : (s.contextSent).cmdq = s.cmdq := rfl
@[simp] theorem State.contextSent_port : (s.contextSent).port = s.port := rfl
@[simp] theorem State.contextSent_response : (s.contextSent).response = s.response := rfl
@[simp] theorem State.contextSent_events : (s.contextSent).events = s.events := rfl
@[simp] theorem State.contextSent_egress : (s.contextSent).egress = s.egress := rfl
@[simp] theorem State.contextSent_sendDraws : (s.contextSent).sendDraws = s.sendDraws := rfl
@[simp] theorem State.contextSent_sendCount : (s.contextSent).sendCount = s.sendCount := rfl
@[simp] theorem State.contextSent_rxBufBytes : (s.contextSent).rxBufBytes = s.rxBufBytes := rfl

/-! ### `sends` -/

@[simp] theorem State.sends_phase (ps : List (List Byte)) (d : List Bool) (n : Nat) :
    (s.sends ps d n).phase = s.phase := rfl
@[simp] theorem State.sends_cfg (ps : List (List Byte)) (d : List Bool) (n : Nat) :
    (s.sends ps d n).cfg = s.cfg := rfl
@[simp] theorem State.sends_errCode (ps : List (List Byte)) (d : List Bool) (n : Nat) :
    (s.sends ps d n).errCode = s.errCode := rfl
@[simp] theorem State.sends_txSeq (ps : List (List Byte)) (d : List Bool) (n : Nat) :
    (s.sends ps d n).txSeq = s.txSeq := rfl
@[simp] theorem State.sends_ctxSeq (ps : List (List Byte)) (d : List Bool) (n : Nat) :
    (s.sends ps d n).ctxSeq = s.ctxSeq := rfl
@[simp] theorem State.sends_txAccCount (ps : List (List Byte)) (d : List Bool) (n : Nat) :
    (s.sends ps d n).txAccCount = s.txAccCount := rfl
@[simp] theorem State.sends_txAcc (ps : List (List Byte)) (d : List Bool) (n : Nat) :
    (s.sends ps d n).txAcc = s.txAcc := rfl
@[simp] theorem State.sends_txStatic (ps : List (List Byte)) (d : List Bool) (n : Nat) :
    (s.sends ps d n).txStatic = s.txStatic := rfl
@[simp] theorem State.sends_txPacketCount (ps : List (List Byte)) (d : List Bool) (n : Nat) :
    (s.sends ps d n).txPacketCount = s.txPacketCount := rfl
@[simp] theorem State.sends_tsRef (ps : List (List Byte)) (d : List Bool) (n : Nat) :
    (s.sends ps d n).tsRef = s.tsRef := rfl
@[simp] theorem State.sends_tsPsr (ps : List (List Byte)) (d : List Bool) (n : Nat) :
    (s.sends ps d n).tsPsr = s.tsPsr := rfl
@[simp] theorem State.sends_linkUp (ps : List (List Byte)) (d : List Bool) (n : Nat) :
    (s.sends ps d n).linkUp = s.linkUp := rfl
@[simp] theorem State.sends_rxLastSeq (ps : List (List Byte)) (d : List Bool) (n : Nat) :
    (s.sends ps d n).rxLastSeq = s.rxLastSeq := rfl
@[simp] theorem State.sends_rxLastStatic (ps : List (List Byte)) (d : List Bool) (n : Nat) :
    (s.sends ps d n).rxLastStatic = s.rxLastStatic := rfl
@[simp] theorem State.sends_pending (ps : List (List Byte)) (d : List Bool) (n : Nat) :
    (s.sends ps d n).pending = s.pending := rfl
@[simp] theorem State.sends_rxOutIndex (ps : List (List Byte)) (d : List Bool) (n : Nat) :
    (s.sends ps d n).rxOutIndex = s.rxOutIndex := rfl
@[simp] theorem State.sends_tcpIn (ps : List (List Byte)) (d : List Bool) (n : Nat) :
    (s.sends ps d n).tcpIn = s.tcpIn := rfl
@[simp] theorem State.sends_tcpPhase (ps : List (List Byte)) (d : List Bool) (n : Nat) :
    (s.sends ps d n).tcpPhase = s.tcpPhase := rfl
@[simp] theorem State.sends_tcpBuf (ps : List (List Byte)) (d : List Bool) (n : Nat) :
    (s.sends ps d n).tcpBuf = s.tcpBuf := rfl
@[simp] theorem State.sends_tcpNeed (ps : List (List Byte)) (d : List Bool) (n : Nat) :
    (s.sends ps d n).tcpNeed = s.tcpNeed := rfl
@[simp] theorem State.sends_cmdq (ps : List (List Byte)) (d : List Bool) (n : Nat) :
    (s.sends ps d n).cmdq = s.cmdq := rfl
@[simp] theorem State.sends_port (ps : List (List Byte)) (d : List Bool) (n : Nat) :
    (s.sends ps d n).port = s.port := rfl
@[simp] theorem State.sends_response (ps : List (List Byte)) (d : List Bool) (n : Nat) :
    (s.sends ps d n).response = s.response := rfl
@[simp] theorem State.sends_events (ps : List (List Byte)) (d : List Bool) (n : Nat) :
    (s.sends ps d n).events = s.events := rfl
@[simp] theorem State.sends_egress (ps : List (List Byte)) (d : List Bool) (n : Nat) :
    (s.sends ps d n).egress = s.egress ++ ps := rfl
@[simp] theorem State.sends_sendDraws (ps : List (List Byte)) (d : List Bool) (n : Nat) :
    (s.sends ps d n).sendDraws = d := rfl
@[simp] theorem State.sends_sendCount (ps : List (List Byte)) (d : List Bool) (n : Nat) :
    (s.sends ps d n).sendCount = n := rfl
@[simp] theorem State.sends_rxBufBytes (ps : List (List Byte)) (d : List Bool) (n : Nat) :
    (s.sends ps d n).rxBufBytes = s.rxBufBytes := rfl

/-! ### `dataSent` -/

@[simp] theorem State.dataSent_phase : (s.dataSent).phase = s.phase := rfl
@[simp] theorem State.dataSent_cfg : (s.dataSent).cfg = s.cfg := rfl
@[simp] theorem State.dataSent_errCode : (s.dataSent).errCode = s.errCode := rfl
@[simp] theorem State.dataSent_txSeq : (s.dataSent).txSeq = s.txSeq + 1 := rfl
@[simp] theorem State.dataSent_ctxSeq : (s.dataSent).ctxSeq = s.ctxSeq := rfl
@[simp] theorem State.dataSent_txAccCount : (s.dataSent).txAccCount = 0 := rfl
@[simp] theorem State.dataSent_txAcc : (s.dataSent).txAcc = [] := rfl
@[simp] theorem State.dataSent_txStatic : (s.dataSent).txStatic = s.txStatic := rfl
@[simp] theorem State.dataSent_txPacketCount : (s.dataSent).txPacketCount = s.txPacketCount + 1 := rfl
@[simp] theorem State.dataSent_tsRef : (s.dataSent).tsRef = s.tsRef := rfl
@[simp] theorem State.dataSent_tsPsr : (s.dataSent).tsPsr = s.tsPsr + 1 := rfl
@[simp] theorem State.dataSent_linkUp : (s.dataSent).linkUp = s.linkUp := rfl
@[simp] theorem State.dataSent_rxLastSeq : (s.dataSent).rxLastSeq = s.rxLastSeq := rfl
@[simp] theorem State.dataSent_rxLastStatic : (s.dataSent).rxLastStatic = s.rxLastStatic := rfl
@[simp] theorem State.dataSent_pending : (s.dataSent).pending = s.pending := rfl
@[simp] theorem State.dataSent_rxOutIndex : (s.dataSent).rxOutIndex = s.rxOutIndex := rfl
@[simp] theorem State.dataSent_tcpIn : (s.dataSent).tcpIn = s.tcpIn := rfl
@[simp] theorem State.dataSent_tcpPhase : (s.dataSent).tcpPhase = s.tcpPhase := rfl
@[simp] theorem State.dataSent_tcpBuf : (s.dataSent).tcpBuf = s.tcpBuf := rfl
@[simp] theorem State.dataSent_tcpNeed : (s.dataSent).tcpNeed = s.tcpNeed := rfl
@[simp] theorem State.dataSent_cmdq : (s.dataSent).cmdq = s.cmdq := rfl
@[simp] theorem State.dataSent_port : (s.dataSent).port = s.port := rfl
@[simp] theorem State.dataSent_response : (s.dataSent).response = s.response := rfl
@[simp] theorem State.dataSent_events : (s.dataSent).events = s.events := rfl
@[simp] theorem State.dataSent_egress : (s.dataSent).egress = s.egress := rfl
@[simp] theorem State.dataSent_sendDraws : (s.dataSent).sendDraws = s.sendDraws := rfl
@[simp] theorem State.dataSent_sendCount : (s.dataSent).sendCount = s.sendCount := rfl
@[simp] theorem State.dataSent_rxBufBytes : (s.dataSent).rxBufBytes = s.rxBufBytes := rfl

/-! ### `fillTcp` -/

@[simp] theorem State.fillTcp_phase (n : Nat) : (s.fillTcp n).phase = s.phase := rfl
@[simp] theorem State.fillTcp_cfg (n : Nat) : (s.fillTcp n).cfg = s.cfg := rfl
@[simp] theorem State.fillTcp_errCode (n : Nat) : (s.fillTcp n).errCode = s.errCode := rfl
@[simp] theorem State.fillTcp_txSeq (n : Nat) : (s.fillTcp n).txSeq = s.txSeq := rfl
@[simp] theorem State.fillTcp_ctxSeq (n : Nat) : (s.fillTcp n).ctxSeq = s.ctxSeq := rfl
@[simp] theorem State.fillTcp_txAccCount (n : Nat) : (s.fillTcp n).txAccCount = s.txAccCount := rfl
@[simp] theorem State.fillTcp_txAcc (n : Nat) : (s.fillTcp n).txAcc = s.txAcc := rfl
@[simp] theorem State.fillTcp_txStatic (n : Nat) : (s.fillTcp n).txStatic = s.txStatic := rfl
@[simp] theorem State.fillTcp_txPacketCount (n : Nat) : (s.fillTcp n).txPacketCount = s.txPacketCount := rfl
@[simp] theorem State.fillTcp_tsRef (n : Nat) : (s.fillTcp n).tsRef = s.tsRef := rfl
@[simp] theorem State.fillTcp_tsPsr (n : Nat) : (s.fillTcp n).tsPsr = s.tsPsr := rfl
@[simp] theorem State.fillTcp_linkUp (n : Nat) : (s.fillTcp n).linkUp = s.linkUp := rfl
@[simp] theorem State.fillTcp_rxLastSeq (n : Nat) : (s.fillTcp n).rxLastSeq = s.rxLastSeq := rfl
@[simp] theorem State.fillTcp_rxLastStatic (n : Nat) : (s.fillTcp n).rxLastStatic = s.rxLastStatic := rfl
@[simp] theorem State.fillTcp_pending (n : Nat) : (s.fillTcp n).pending = s.pending := rfl
@[simp] theorem State.fillTcp_rxOutIndex (n : Nat) : (s.fillTcp n).rxOutIndex = s.rxOutIndex := rfl
@[simp] theorem State.fillTcp_tcpIn (n : Nat) : (s.fillTcp n).tcpIn = s.tcpIn.drop (n - s.tcpBuf.length) := rfl
@[simp] theorem State.fillTcp_tcpPhase (n : Nat) : (s.fillTcp n).tcpPhase = s.tcpPhase := rfl
@[simp] theorem State.fillTcp_tcpBuf (n : Nat) :
    (s.fillTcp n).tcpBuf = s.tcpBuf ++ s.tcpIn.take (n - s.tcpBuf.length) := rfl
@[simp] theorem State.fillTcp_tcpNeed (n : Nat) : (s.fillTcp n).tcpNeed = s.tcpNeed := rfl
@[simp] theorem State.fillTcp_cmdq (n : Nat) : (s.fillTcp n).cmdq = s.cmdq := rfl
@[simp] theorem State.fillTcp_port (n : Nat) : (s.fillTcp n).port = s.port := rfl
@[simp] theorem State.fillTcp_response (n : Nat) : (s.fillTcp n).response = s.response := rfl
@[simp] theorem State.fillTcp_events (n : Nat) : (s.fillTcp n).events = s.events := rfl
@[simp] theorem State.fillTcp_egress (n : Nat) : (s.fillTcp n).egress = s.egress := rfl
@[simp] theorem State.fillTcp_sendDraws (n : Nat) : (s.fillTcp n).sendDraws = s.sendDraws := rfl
@[simp] theorem State.fillTcp_sendCount (n : Nat) : (s.fillTcp n).sendCount = s.sendCount := rfl
@[simp] theorem State.fillTcp_rxBufBytes (n : Nat) : (s.fillTcp n).rxBufBytes = s.rxBufBytes := rfl

/-! ### `loadSink` -/

@[simp] theorem State.loadSink_phase : (s.loadSink).phase = s.phase := rfl
@[simp] theorem State.loadSink_cfg : (s.loadSink).cfg = s.cfg := rfl
@[simp] theorem State.loadSink_errCode : (s.loadSink).errCode = s.errCode := rfl
@[simp] theorem State.loadSink_txSeq : (s.loadSink).txSeq = s.txSeq := rfl
@[simp] theorem State.loadSink_ctxSeq : (s.loadSink).ctxSeq = s.ctxSeq := rfl
@[simp] theorem State.loadSink_txAccCount : (s.loadSink).txAccCount = s.txAccCount := rfl
@[simp] theorem State.loadSink_txAcc : (s.loadSink).txAcc = s.txAcc := rfl
@[simp] theorem State.loadSink_txStatic : (s.loadSink).txStatic = s.cfg.dataStatic := rfl
@[simp] theorem State.loadSink_txPacketCount : (s.loadSink).txPacketCount = s.txPacketCount := rfl
@[simp] theorem State.loadSink_tsRef : (s.loadSink).tsRef = ⟨s.cfg.t0Full, s.cfg.t0Frac⟩ := rfl
@[simp] theorem State.loadSink_tsPsr : (s.loadSink).tsPsr = 0 := rfl
@[simp] theorem State.loadSink_linkUp : (s.loadSink).linkUp = s.linkUp := rfl
@[simp] theorem State.loadSink_rxLastSeq : (s.loadSink).rxLastSeq = s.rxLastSeq := rfl
@[simp] theorem State.loadSink_rxLastStatic : (s.loadSink).rxLastStatic = s.rxLastStatic := rfl
@[simp] theorem State.loadSink_pending : (s.loadSink).pending = s.pending := rfl
@[simp] theorem State.loadSink_rxOutIndex : (s.loadSink).rxOutIndex = s.rxOutIndex := rfl
@[simp] theorem State.loadSink_tcpIn : (s.loadSink).tcpIn = s.tcpIn := rfl
@[simp] theorem State.loadSink_tcpPhase : (s.loadSink).tcpPhase = s.tcpPhase := rfl
@[simp] theorem State.loadSink_tcpBuf : (s.loadSink).tcpBuf = s.tcpBuf := rfl
@[simp] theorem State.loadSink_tcpNeed : (s.loadSink).tcpNeed = s.tcpNeed := rfl
@[simp] theorem State.loadSink_cmdq : (s.loadSink).cmdq = s.cmdq := rfl
@[simp] theorem State.loadSink_port : (s.loadSink).port = s.port := rfl
@[simp] theorem State.loadSink_response : (s.loadSink).response = s.response := rfl
@[simp] theorem State.loadSink_events : (s.loadSink).events = s.events := rfl
@[simp] theorem State.loadSink_egress : (s.loadSink).egress = s.egress := rfl
@[simp] theorem State.loadSink_sendDraws : (s.loadSink).sendDraws = s.sendDraws := rfl
@[simp] theorem State.loadSink_sendCount : (s.loadSink).sendCount = s.sendCount := rfl
@[simp] theorem State.loadSink_rxBufBytes : (s.loadSink).rxBufBytes = s.rxBufBytes := rfl

/-! ### `take` -/

@[simp] theorem State.take_phase (c : Command) (q : List Command) : (s.take c q).phase = s.phase := rfl
@[simp] theorem State.take_cfg (c : Command) (q : List Command) : (s.take c q).cfg = s.cfg := rfl
@[simp] theorem State.take_errCode (c : Command) (q : List Command) : (s.take c q).errCode = s.errCode := rfl
@[simp] theorem State.take_txSeq (c : Command) (q : List Command) : (s.take c q).txSeq = s.txSeq := rfl
@[simp] theorem State.take_ctxSeq (c : Command) (q : List Command) : (s.take c q).ctxSeq = s.ctxSeq := rfl
@[simp] theorem State.take_txAccCount (c : Command) (q : List Command) : (s.take c q).txAccCount = s.txAccCount := rfl
@[simp] theorem State.take_txAcc (c : Command) (q : List Command) : (s.take c q).txAcc = s.txAcc := rfl
@[simp] theorem State.take_txStatic (c : Command) (q : List Command) : (s.take c q).txStatic = s.txStatic := rfl
@[simp] theorem State.take_txPacketCount (c : Command) (q : List Command) :
    (s.take c q).txPacketCount = s.txPacketCount := rfl
@[simp] theorem State.take_tsRef (c : Command) (q : List Command) : (s.take c q).tsRef = s.tsRef := rfl
@[simp] theorem State.take_tsPsr (c : Command) (q : List Command) : (s.take c q).tsPsr = s.tsPsr := rfl
@[simp] theorem State.take_linkUp (c : Command) (q : List Command) : (s.take c q).linkUp = s.linkUp := rfl
@[simp] theorem State.take_rxLastSeq (c : Command) (q : List Command) : (s.take c q).rxLastSeq = s.rxLastSeq := rfl
@[simp] theorem State.take_rxLastStatic (c : Command) (q : List Command) :
    (s.take c q).rxLastStatic = s.rxLastStatic := rfl
@[simp] theorem State.take_pending (c : Command) (q : List Command) : (s.take c q).pending = s.pending := rfl
@[simp] theorem State.take_rxOutIndex (c : Command) (q : List Command) : (s.take c q).rxOutIndex = s.rxOutIndex := rfl
@[simp] theorem State.take_tcpIn (c : Command) (q : List Command) : (s.take c q).tcpIn = s.tcpIn := rfl
@[simp] theorem State.take_tcpPhase (c : Command) (q : List Command) : (s.take c q).tcpPhase = s.tcpPhase := rfl
@[simp] theorem State.take_tcpBuf (c : Command) (q : List Command) : (s.take c q).tcpBuf = s.tcpBuf := rfl
@[simp] theorem State.take_tcpNeed (c : Command) (q : List Command) : (s.take c q).tcpNeed = s.tcpNeed := rfl
@[simp] theorem State.take_cmdq (c : Command) (q : List Command) : (s.take c q).cmdq = q := rfl
@[simp] theorem State.take_port (c : Command) (q : List Command) : (s.take c q).port = c.operands := rfl
@[simp] theorem State.take_response (c : Command) (q : List Command) : (s.take c q).response = s.response := rfl
@[simp] theorem State.take_events (c : Command) (q : List Command) : (s.take c q).events = s.events := rfl
@[simp] theorem State.take_egress (c : Command) (q : List Command) : (s.take c q).egress = s.egress := rfl
@[simp] theorem State.take_sendDraws (c : Command) (q : List Command) : (s.take c q).sendDraws = s.sendDraws := rfl
@[simp] theorem State.take_sendCount (c : Command) (q : List Command) : (s.take c q).sendCount = s.sendCount := rfl
@[simp] theorem State.take_rxBufBytes (c : Command) (q : List Command) : (s.take c q).rxBufBytes = s.rxBufBytes := rfl

/-! ### `softReset` -/

@[simp] theorem State.softReset_phase : s.softReset.phase = State.reset.phase := rfl
@[simp] theorem State.softReset_cfg : s.softReset.cfg = State.reset.cfg := rfl
@[simp] theorem State.softReset_errCode : s.softReset.errCode = State.reset.errCode := rfl
@[simp] theorem State.softReset_txSeq : s.softReset.txSeq = State.reset.txSeq := rfl
@[simp] theorem State.softReset_ctxSeq : s.softReset.ctxSeq = State.reset.ctxSeq := rfl
@[simp] theorem State.softReset_txAccCount : s.softReset.txAccCount = State.reset.txAccCount := rfl
@[simp] theorem State.softReset_txAcc : s.softReset.txAcc = State.reset.txAcc := rfl
@[simp] theorem State.softReset_txStatic : s.softReset.txStatic = State.reset.txStatic := rfl
@[simp] theorem State.softReset_txPacketCount : s.softReset.txPacketCount = State.reset.txPacketCount := rfl
@[simp] theorem State.softReset_tsRef : s.softReset.tsRef = State.reset.tsRef := rfl
@[simp] theorem State.softReset_tsPsr : s.softReset.tsPsr = State.reset.tsPsr := rfl
@[simp] theorem State.softReset_linkUp : s.softReset.linkUp = State.reset.linkUp := rfl
@[simp] theorem State.softReset_rxLastSeq : s.softReset.rxLastSeq = State.reset.rxLastSeq := rfl
@[simp] theorem State.softReset_rxLastStatic : s.softReset.rxLastStatic = State.reset.rxLastStatic := rfl
@[simp] theorem State.softReset_pending : s.softReset.pending = State.reset.pending := rfl
@[simp] theorem State.softReset_rxOutIndex : s.softReset.rxOutIndex = State.reset.rxOutIndex := rfl
@[simp] theorem State.softReset_tcpIn : s.softReset.tcpIn = State.reset.tcpIn := rfl
@[simp] theorem State.softReset_tcpPhase : s.softReset.tcpPhase = State.reset.tcpPhase := rfl
@[simp] theorem State.softReset_tcpBuf : s.softReset.tcpBuf = State.reset.tcpBuf := rfl
@[simp] theorem State.softReset_tcpNeed : s.softReset.tcpNeed = State.reset.tcpNeed := rfl
@[simp] theorem State.softReset_cmdq : s.softReset.cmdq = s.cmdq := rfl
@[simp] theorem State.softReset_port : s.softReset.port = s.port := rfl
@[simp] theorem State.softReset_response : s.softReset.response = s.response := rfl
@[simp] theorem State.softReset_events : s.softReset.events = State.reset.events := rfl
@[simp] theorem State.softReset_egress : s.softReset.egress = s.egress := rfl
@[simp] theorem State.softReset_sendDraws : s.softReset.sendDraws = s.sendDraws := rfl
@[simp] theorem State.softReset_sendCount : s.softReset.sendCount = s.sendCount := rfl
@[simp] theorem State.softReset_rxBufBytes : s.softReset.rxBufBytes = s.rxBufBytes := rfl

/-! ### The statements' own updates, and what depends on the configuration only -/

theorem State.answered_eq_reply (r : Response) (evs : List Event) : s.answered r evs = s.reply r evs := rfl

theorem State.faulted_eq_raiseFatal (c : FatalCode) (evs : List Event) : s.faulted c evs = s.raiseFatal c evs := rfl

theorem State.isSource_congr {s t : State} (h : t.cfg = s.cfg) : t.isSource = s.isSource := by simp [State.isSource, h]

theorem State.isTcp_congr {s t : State} (h : t.cfg = s.cfg) : t.isTcp = s.isTcp := by simp [State.isTcp, h]

theorem State.depth_congr {s t : State} (h : t.cfg = s.cfg) : t.depth = s.depth := by simp [State.depth, h]

theorem State.sampleSize_congr {s t : State} (h : t.cfg = s.cfg) : t.sampleSize = s.sampleSize := by
  simp [State.sampleSize, State.depth, h]

theorem State.policy_congr {s t : State} (h : t.cfg = s.cfg) : t.policy = s.policy := by simp [State.policy, h]

theorem startCheck_congr {s t : State} (h : t.cfg = s.cfg) : startCheck t = startCheck s := by
  simp [startCheck, State.depth, State.isSource, State.isPaired, h]

theorem State.advance_congr {s t : State} (hc : t.cfg = s.cfg) (hr : t.tsRef = s.tsRef) (hp : t.tsPsr = s.tsPsr) :
    t.advance = s.advance := by
  simp [State.advance, hc, hr, hp]

end Sys2Proof.Machine
end

