-- ==== Sys2Proof/Laws/Ops.lean ====
section
/-! SUPPORT. For each shared operation one lemma that says everything it can do, to be cited instead of unfolding it. -/

namespace Sys2Proof.Machine

open Sys2Proof

/-! ### Admission and operands -/

/-- A command is refused by its row's first failing check, or performed. -/
theorem admit_cases (a : Admission) (s t : State) :
    (∃ c, a.check s = some c ∧ whenAdmitted a s t = s.refuse c) ∨ (a.check s = none ∧ whenAdmitted a s t = t) := by
  unfold whenAdmitted
  cases h : a.check s with
  | none => exact .inr ⟨rfl, rfl⟩
  | some c => exact .inl ⟨c, rfl, rfl⟩

theorem admit_of_check {a : Admission} {s : State} (h : a.check s = none) (t : State) : whenAdmitted a s t = t := by
  simp [whenAdmitted, h]

theorem admit_of_refusal {a : Admission} {s : State} {c : RefusalCode} (h : a.check s = some c) (t : State) :
    whenAdmitted a s t = s.refuse c := by
  simp [whenAdmitted, h]

@[simp] theorem check_always (s : State) : Admission.check .always s = none := rfl

theorem check_fault {a : Admission} {s : State} (ha : a ≠ .always) (h : s.phase = .fault) :
    a.check s = some .inFault := by
  simp [Admission.check, ha, h]

theorem check_configOnly {s : State} (h : s.phase = .config) : Admission.check .configOnly s = none := by
  simp [Admission.check, Admission.phaseOk, Admission.directionOk, h]

theorem check_beforeFault {s : State} (h : s.phase ≠ .fault) : Admission.check .beforeFault s = none := by
  simp [Admission.check, Admission.phaseOk, Admission.directionOk, h]

theorem check_running {s : State} (h : s.phase = .run) : Admission.check .running s = none := by
  simp [Admission.check, Admission.phaseOk, Admission.directionOk, h]

theorem check_sink {s : State} (h : s.phase = .run) (hd : s.isSource = false) : Admission.check .sink s = none := by
  simp [Admission.check, Admission.phaseOk, Admission.directionOk, h, hd]

theorem check_sinkTcp {s : State} (h : s.phase = .run) (hd : s.isSource = false) (ht : s.isTcp = true) :
    Admission.check .sinkTcp s = none := by
  simp [Admission.check, Admission.phaseOk, Admission.directionOk, h, hd, ht]

theorem check_source {s : State} (h : s.phase = .run) (hd : s.isSource = true) : Admission.check .source s = none := by
  simp [Admission.check, Admission.phaseOk, Admission.directionOk, h, hd]

theorem check_sourceTcp {s : State} (h : s.phase = .run) (hd : s.isSource = true) (ht : s.isTcp = true) :
    Admission.check .sourceTcp s = none := by
  simp [Admission.check, Admission.phaseOk, Admission.directionOk, h, hd, ht]

theorem check_sourceUdp {s : State} (h : s.phase = .run) (hd : s.isSource = true) (ht : s.isTcp = false) :
    Admission.check .sourceUdp s = none := by
  simp [Admission.check, Admission.phaseOk, Admission.directionOk, h, hd, ht]

@[simp] theorem withOperands_some {α : Type} (a : α) (s : State) (k : α → State) :
    withOperands (some a) s k = k a := rfl

@[simp] theorem withOperands_none {α : Type} (s : State) (k : α → State) :
    withOperands none s k = s.refuse .badOperand := rfl

@[simp] theorem asU64_word (v : Word64) : asU64 (.word v) = some v := rfl

@[simp] theorem asF64_word (v : Word64) : asF64 (.word v) = some v := rfl

@[simp] theorem asBytes_bytes (b : List Byte) : asBytes (.bytes b) = some b := rfl

@[simp] theorem asSamples_samples (l : List Sample) : asSamples (.samples l) = some l := rfl

/-- A 32-bit number carried as a 64-bit word is the `u32` operand it is. -/
@[simp] theorem asU32_word (v : Word32) : asU32 (.word (v.setWidth 64)) = some v := by
  have h := v.isLt
  have e : (v.setWidth 64 : Word64).toNat = v.toNat := by simp; omega
  simp only [asU32, e, h, if_true]
  congr 1
  apply BitVec.eq_of_toNat_eq
  simp

/-! ### Setting the time, sending -/

/-- Setting the reference refuses an illegal fraction, else sets it and zeroes the packet count. -/
theorem resetTime_cases (s : State) (full : Word32) (frac : Word64) :
    (picosPerSecond ≤ frac.toNat ∧ s.resetTime full frac = s.refuse .badOperand) ∨
    (frac.toNat < picosPerSecond ∧ s.resetTime full frac = (s.setTime full frac).ok .unit) := by
  by_cases h : picosPerSecond ≤ frac.toNat
  · exact .inl ⟨h, by simp only [State.resetTime, h, if_true]⟩
  · exact .inr ⟨by omega, by simp only [State.resetTime, h, if_false]⟩

theorem sends_sends (s : State) (a b : List (List Byte)) (d e : List Bool) (n m : Nat) :
    (s.sends a d n).sends b e m = s.sends (a ++ b) e m := by
  simp only [State.sends, List.append_assoc]

theorem sends_contextSent (s : State) (a : List (List Byte)) (d : List Bool) (n : Nat) :
    (s.sends a d n).contextSent = s.contextSent.sends a d n := rfl

/-- A send moves the draws, and appends the packet to the egress stream exactly where it is accepted. -/
theorem transmit_cases (s : State) (p : List Byte) :
    (∃ d n, transmit s p = (true, s.sends [p] d n)) ∨ ∃ d n, transmit s p = (false, s.sends [] d n) := by
  have h0 : ∀ d n, s.sends [] d n = { s with sendDraws := d, sendCount := n } := by
    intro d n; simp only [State.sends, List.append_nil]
  cases hd : s.sendDraws with
  | nil =>
    cases hc : Config.sendOk s.sendCount with
    | true => exact .inl ⟨[], s.sendCount + 1, by simp only [transmit, State.drawSend, hd, hc, State.sends]⟩
    | false => exact .inr ⟨[], s.sendCount + 1, by simp only [transmit, State.drawSend, hd, hc, h0]⟩
  | cons c d =>
    cases c with
    | true => exact .inl ⟨d, s.sendCount, by simp only [transmit, State.drawSend, hd, State.sends]⟩
    | false => exact .inr ⟨d, s.sendCount, by simp only [transmit, State.drawSend, hd, h0]⟩

theorem transmit_accepted {s : State} {d : List Bool} (h : s.sendDraws = true :: d) (p : List Byte) :
    transmit s p = (true, s.sends [p] d s.sendCount) := by
  simp only [transmit, State.drawSend, h, State.sends]

theorem transmit_rejected {s : State} {d : List Bool} (h : s.sendDraws = false :: d) (p : List Byte) :
    transmit s p = (false, s.sends [] d s.sendCount) := by
  simp only [transmit, State.drawSend, h, State.sends, List.append_nil]

/-- What the context part of `emit_packets` can do: nothing where none is due, else send the packet and count it, or fail
to send it. -/
theorem emitContext_cases (s : State) (ts : Timestamp) :
    (s.contextDue = false ∧ emitContext s ts = (true, 0, s)) ∨
    (s.contextDue = true ∧ ∃ d n, emitContext s ts = (true, 1, (s.sends [s.buildContext ts] d n).contextSent)) ∨
    (s.contextDue = true ∧ ∃ d n, emitContext s ts = (false, 0, s.sends [] d n)) := by
  cases hc : s.contextDue with
  | false => exact .inl ⟨rfl, by simp only [emitContext, hc, Bool.false_eq_true, if_false]⟩
  | true =>
    rcases transmit_cases s (s.buildContext ts) with ⟨d, n, h⟩ | ⟨d, n, h⟩
    · exact .inr (.inl ⟨rfl, d, n, by simp only [emitContext, hc, if_true, h]⟩)
    · exact .inr (.inr ⟨rfl, d, n, by simp only [emitContext, hc, if_true, h]⟩)

theorem emitPackets_none {s : State} (h : s.advance = none) : emitPackets s = (.error .tsRange, s) := by
  rw [emitPackets, h, emitAt]

theorem emitPackets_some {s : State} {ts : Timestamp} (h : s.advance = some ts) :
    emitPackets s = emitData ts (emitContext s ts) := by
  rw [emitPackets, h, emitAt]

/-- What the data part of `emit_packets` can do once its context part has succeeded. -/
theorem emitData_cases (ts : Timestamp) (k : Nat) (t : State) :
    (∃ d n, emitData ts (true, k, t) = (.ok (k + 1), (t.sends [t.dataPacket ts] d n).dataSent)) ∨
    ∃ d n, emitData ts (true, k, t) = (.error .transportSend, t.sends [] d n) := by
  rcases transmit_cases t (t.dataPacket ts) with ⟨d, n, h⟩ | ⟨d, n, h⟩
  · exact .inl ⟨d, n, by simp only [emitData, h]⟩
  · exact .inr ⟨d, n, by simp only [emitData, h]⟩

/-- What `emit_packets` can do: report an infinite time with nothing changed, report a failed send, or send its packets and
move the counters. Before the counters it changes only the context sequence, the egress stream and the draws. -/
theorem emitPackets_cases (s : State) :
    (s.advance = none ∧ emitPackets s = (.error .tsRange, s)) ∨
    ∃ r ps d n, (r = s ∨ r = s.contextSent) ∧
      (emitPackets s = (.error .transportSend, r.sends ps d n) ∨
        ∃ k, emitPackets s = (.ok k, (r.sends ps d n).dataSent)) := by
  cases ha : s.advance with
  | none => exact .inl ⟨rfl, emitPackets_none ha⟩
  | some ts =>
    refine .inr ?_
    rw [emitPackets_some ha]
    rcases emitContext_cases s ts with ⟨-, h⟩ | ⟨-, d, n, h⟩ | ⟨-, d, n, h⟩ <;> rw [h]
    · rcases emitData_cases ts 0 s with ⟨d, n, h'⟩ | ⟨d, n, h'⟩
      · exact ⟨s, _, d, n, .inl rfl, .inr ⟨_, h'⟩⟩
      · exact ⟨s, _, d, n, .inl rfl, .inl h'⟩
    · rw [sends_contextSent]
      rcases emitData_cases ts 1 (s.contextSent.sends [s.buildContext ts] d n) with ⟨d', n', h'⟩ | ⟨d', n', h'⟩ <;>
        rw [sends_sends] at h'
      · exact ⟨s.contextSent, _, d', n', .inr rfl, .inr ⟨_, h'⟩⟩
      · exact ⟨s.contextSent, _, d', n', .inr rfl, .inl h'⟩
    · exact ⟨s, _, d, n, .inl rfl, .inl rfl⟩

/-! ### The loop of TX_PUSH -/

theorem pushLoop_nil (c k : Nat) (s : State) : pushLoop [] c k s = s.ok (.pushed c k) := rfl

/-- A sample that leaves the packet incomplete is taken. -/
theorem pushLoop_take {s : State} {p : Sample} (h : s.txAccCount + 1 ≠ s.cfg.spp) (rest : List Sample) (c k : Nat) :
    pushLoop (p :: rest) c k s = pushLoop rest (c + 1) k (s.takeSample p) := by
  rw [pushLoop]
  exact if_neg h

/-- A sample that completes a packet whose sends are accepted. -/
theorem pushLoop_sent {s u : State} {p : Sample} {j : Nat} (h : s.txAccCount + 1 = s.cfg.spp)
    (he : emitPackets (s.takeSample p) = (.ok j, u)) (rest : List Sample) (c k : Nat) :
    pushLoop (p :: rest) c k s = pushLoop rest (c + 1) (k + j) u := by
  rw [pushLoop]
  simp only [State.takeSample_txAccCount, State.takeSample_cfg, h, if_true]
  rw [he, pushAfter]

/-- A sample that completes a packet that is not sent. -/
theorem pushLoop_failed {s u : State} {p : Sample} {e : FatalCode} (h : s.txAccCount + 1 = s.cfg.spp)
    (he : emitPackets (s.takeSample p) = (.error e, u)) (rest : List Sample) (c k : Nat) :
    pushLoop (p :: rest) c k s = u.raiseFatal e [] := by
  rw [pushLoop]
  simp only [State.takeSample_txAccCount, State.takeSample_cfg, h, if_true]
  rw [he, pushAfter]

/-! ### Receiving -/

/-- What `parse_header` reads from a unit: the fields of its header word, and its stream identifier. -/
theorem parseHeader_fields (u : List Byte) :
    let w : Word32 := BitVec.ofNat 32 (beRead u 0 4)
    (parseHeader u).kind = w.extractLsb' 28 4 ∧ (parseHeader u).sequence = w.extractLsb' 16 4 ∧
      (parseHeader u).streamId = streamIdOf u ∧ (parseHeader u).wordCount = w.extractLsb' 0 16 ∧
      (parseHeader u).staticBits = w.extractLsb' 20 12 ∧ (parseHeader u).isData = (w.extractLsb' 28 4 == 1) :=
  ⟨rfl, rfl, rfl, rfl, rfl, rfl⟩

/-- The stream identifier of a unit long enough to hold one. -/
theorem streamIdOf_of_le {u : List Byte} (h : 8 ≤ u.length) : streamIdOf u = some (BitVec.ofNat 32 (beRead u 4 4)) := by
  simp [streamIdOf, h]

/-- A unit too short to hold a stream identifier has none. -/
theorem streamIdOf_of_lt {u : List Byte} (h : u.length < 8) : streamIdOf u = none := by
  simp [streamIdOf, Nat.not_le.mpr h]

/-- The identifier check of a data unit, whose length has been checked, compares the word at offset 4 (R292). -/
theorem streamId_ne_iff {u : List Byte} (h : 20 ≤ u.length) (sid : Word32) :
    ((parseHeader u).streamId != some sid) = (BitVec.ofNat 32 (beRead u 4 4) != sid) := by
  rw [(parseHeader_fields u).2.2.1, streamIdOf_of_le (Nat.le_trans (by decide) h)]
  rfl

/-- A mismatch is fatal, dropped, or forwarded, by the policy. -/
theorem mismatch_cases (s : State) (c : ProtoCode) (fwd : Bool) (len : Nat) (k : List Event → RxStep) :
    (s.policy = .fail ∧ mismatch s c fwd len k = ⟨s, [], .fatal (.proto c)⟩) ∨
    (s.policy = .ignore ∧ mismatch s c fwd len k = dropUnit s []) ∨
    (s.policy = .warnAndForward ∧ fwd = true ∧ mismatch s c fwd len k = k [.warn (.proto c) len]) ∨
    (s.policy = .warnAndForward ∧ fwd = false ∧ mismatch s c fwd len k = dropUnit s [.warn (.proto c) len]) ∨
    (s.policy = .warnAndWithhold ∧ mismatch s c fwd len k = dropUnit s [.warn (.proto c) len]) := by
  cases h : s.policy <;> cases fwd <;> simp [mismatch, h]

/-- What a receive step may write: the sequence, the static bits, the pending context, the index and the time reference. -/
structure RxFrame (s t : State) : Prop where
  /-- Everything else is as before. -/
  same : ∃ a b c d e f,
    t = { s with rxLastSeq := a, rxLastStatic := b, pending := c, rxOutIndex := d, tsRef := e, tsPsr := f }

theorem RxFrame.refl (s : State) : RxFrame s s := ⟨⟨_, _, _, _, _, _, rfl⟩⟩

theorem rxAccept_frame (s : State) (u : List Byte) (h : PacketHeader) (req : Nat) (evs : List Event) :
    RxFrame s (rxAccept s u h req evs).st := ⟨⟨_, _, _, _, _, _, rfl⟩⟩

theorem ctxAccept_frame (s : State) (c : Context) (len : Nat) (evs : List Event) :
    RxFrame s (ctxAccept s c len evs).st := by
  unfold ctxAccept
  split
  · exact ⟨⟨_, _, _, _, _, _, rfl⟩⟩
  · split
    · exact ⟨⟨_, _, _, _, _, _, rfl⟩⟩
    · exact ⟨⟨_, _, _, _, _, _, rfl⟩⟩

theorem mismatch_frame (s : State) (c : ProtoCode) (fwd : Bool) (len : Nat) (k : List Event → RxStep)
    (hk : ∀ evs, RxFrame s (k evs).st) : RxFrame s (mismatch s c fwd len k).st := by
  rcases mismatch_cases s c fwd len k with ⟨-, h⟩ | ⟨-, h⟩ | ⟨-, -, h⟩ | ⟨-, -, h⟩ | ⟨-, h⟩ <;> rw [h]
  · exact RxFrame.refl s
  · exact RxFrame.refl s
  · exact hk _
  · exact RxFrame.refl s
  · exact RxFrame.refl s

/-- A receive step writes nothing outside its frame. -/
theorem rxStep_frame (s : State) (u : List Byte) (req : Nat) : RxFrame s (rxStep s u req).st := by
  unfold rxStep
  split
  · exact mismatch_frame _ _ _ _ _ fun _ => RxFrame.refl s
  · dsimp only
    split
    · unfold rxData
      split
      · exact mismatch_frame _ _ _ _ _ fun _ => RxFrame.refl s
      · split
        · exact mismatch_frame _ _ _ _ _ fun _ => rxAccept_frame ..
        · exact rxAccept_frame ..
    · unfold rxContext
      split
      · exact mismatch_frame _ _ _ _ _ fun _ => RxFrame.refl s
      · split
        · exact mismatch_frame _ _ _ _ _ fun _ => ctxAccept_frame ..
        · exact ctxAccept_frame ..

/-! ### TCP framing -/

/-- Filling moves bytes from the queue to the buffer and loses none. -/
theorem fillTcp_held (s : State) (n : Nat) :
    (s.fillTcp n).tcpBuf ++ (s.fillTcp n).tcpIn = s.tcpBuf ++ s.tcpIn := by
  simp [State.fillTcp, List.append_assoc]

@[simp] theorem fillTcp_tcpHeld (s : State) (n : Nat) : (s.fillTcp n).tcpHeld = s.tcpHeld := by
  have h := congrArg List.length (fillTcp_held s n)
  simpa only [List.length_append, State.tcpHeld] using h

/-- A whole unit leaves an empty buffer in HEADER, and takes as many bytes as it is long, 4 at least where the framing
began in HEADER. -/
theorem frameUnit_whole {s t : State} {u : List Byte} (h : frameUnit s = .whole t u) :
    t.tcpPhase = .header ∧ t.tcpBuf = [] ∧ t.tcpNeed = 0 ∧ t.tcpHeld + u.length = s.tcpHeld ∧
      (s.tcpPhase = .header → 4 ≤ u.length) := by
  have body : ∀ (r : State), frameBody r = .whole t u →
      t.tcpPhase = .header ∧ t.tcpBuf = [] ∧ t.tcpNeed = 0 ∧ t.tcpHeld + u.length = r.tcpHeld ∧
        r.tcpBuf.length ≤ u.length := by
    intro r hr
    simp only [frameBody] at hr
    split at hr
    · cases hr
    · simp only [Framed.whole.injEq] at hr
      obtain ⟨rfl, rfl⟩ := hr
      refine ⟨rfl, rfl, rfl, ?_, by simp⟩
      have h1 := fillTcp_tcpHeld r r.tcpNeed.toNat
      simp only [State.tcpHeld, List.length_nil] at h1 ⊢
      omega
  by_cases hp : s.tcpPhase = .header
  · simp only [frameUnit, hp, if_true] at h
    split at h
    · cases h
    · rename_i h4
      split at h
      · cases h
      · obtain ⟨h1, h2, h3, h5, h6⟩ := body _ h
        refine ⟨h1, h2, h3, ?_, fun _ => ?_⟩
        · have h7 := fillTcp_tcpHeld s 4
          simp only [State.tcpHeld] at h5 h7 ⊢
          omega
        · simp only at h6
          omega
  · simp only [frameUnit, hp, if_false] at h
    obtain ⟨h1, h2, h3, h5, -⟩ := body _ h
    exact ⟨h1, h2, h3, h5, fun h => absurd h hp⟩

/-- From HEADER, any fuel above the bytes held gives the same poll. -/
theorem pollLoop_fuel (req : Nat) : ∀ (f g : Nat) (evs : List Event) (s : State), s.tcpPhase = .header →
    s.tcpHeld < f → s.tcpHeld < g → pollLoop f req evs s = pollLoop g req evs s := by
  intro f
  induction f with
  | zero => intro g evs s _ hf; omega
  | succ f ih =>
    intro g evs s hp hf hg
    obtain ⟨g, rfl⟩ : ∃ n, g = n + 1 := ⟨g - 1, by omega⟩
    simp only [pollLoop]
    cases hu : frameUnit s with
    | short t => rfl
    | badCount t => rfl
    | whole t u =>
      obtain ⟨h1, -, -, h4, h5⟩ := frameUnit_whole hu
      have h6 := h5 hp
      obtain ⟨_, _, _, _, _, _, hr⟩ := (rxStep_frame t u req).same
      have hheld : (rxStep t u req).st.tcpHeld = t.tcpHeld := by rw [hr]; rfl
      have hph : (rxStep t u req).st.tcpPhase = .header := by rw [hr]; exact h1
      simp only
      split
      · rfl
      · rfl
      · exact ih g _ _ hph (by omega) (by omega)

/-- The fuel of TCP_RX_POLL is never used up: any larger one gives the same poll (log 11). -/
theorem tcpPoll_fuel (req : Nat) (s : State) (f : Nat) (evs : List Event) (hf : s.tcpHeld + 1 < f) :
    pollLoop f req evs s = pollLoop (s.tcpHeld + 2) req evs s := by
  obtain ⟨f, rfl⟩ : ∃ n, f = n + 1 := ⟨f - 1, by omega⟩
  rw [pollLoop, show s.tcpHeld + 2 = (s.tcpHeld + 1) + 1 from rfl, pollLoop]
  cases hu : frameUnit s with
  | short t => rfl
  | badCount t => rfl
  | whole t u =>
    obtain ⟨h1, -, -, h4, -⟩ := frameUnit_whole hu
    obtain ⟨_, _, _, _, _, _, hr⟩ := (rxStep_frame t u req).same
    have hheld : (rxStep t u req).st.tcpHeld = t.tcpHeld := by rw [hr]; rfl
    have hph : (rxStep t u req).st.tcpPhase = .header := by rw [hr]; exact h1
    simp only
    split
    · rfl
    · rfl
    · refine pollLoop_fuel req _ _ _ _ hph ?_ ?_ <;> omega

/-- Events already collected stand in front of those a poll adds, and change nothing else. -/
theorem pollLoop_events (req : Nat) : ∀ (f : Nat) (pre evs : List Event) (s : State),
    pollLoop f req (pre ++ evs) s =
      { pollLoop f req evs s with events := pre ++ (pollLoop f req evs s).events } := by
  intro f
  induction f with
  | zero => intro pre evs s; rfl
  | succ f ih =>
    intro pre evs s
    simp only [pollLoop]
    cases frameUnit s with
    | short t => rfl
    | badCount t => simp [State.reply, List.append_assoc]
    | whole t u =>
      simp only
      split
      · simp [State.raiseFatal, List.append_assoc]
      · simp [State.reply, List.append_assoc]
      · rw [List.append_assoc]
        exact ih pre _ _

end Sys2Proof.Machine
end

