-- ==== Sys2Proof/Laws/PerInstr.lean ====
section
/-! SUPPORT. Per-instruction laws. Family `Format`: the command word of an instruction has its opcode in bits 31:24 and
zeros in bits 23:12, which are zero in every format (R145). -/

namespace Sys2Proof.Laws.Format

open Sys2Proof

/-- The opcode in bits 31:24, zeros in bits 23:12 (R145, R147). -/
def Statement (i : Instr) : Prop :=
  opField (encode i) = i.opcode ∧ (encode i).extractLsb' 12 12 = 0

theorem softReset : Statement .softReset := ⟨rfl, rfl⟩

theorem regWrite (addr : RegAddr) : Statement (.regWrite addr) := by
  refine ⟨?_, ?_⟩ <;> apply BitVec.eq_of_getLsbD_eq <;> intro i hi <;>
    simp only [opField, encode, Instr.opcode, Instr.lowField, BitVec.getLsbD_extractLsb', BitVec.getLsbD_append] <;>
    simp <;> intros <;> omega

theorem regRead (addr : RegAddr) : Statement (.regRead addr) := by
  refine ⟨?_, ?_⟩ <;> apply BitVec.eq_of_getLsbD_eq <;> intro i hi <;>
    simp only [opField, encode, Instr.opcode, Instr.lowField, BitVec.getLsbD_extractLsb', BitVec.getLsbD_append] <;>
    simp <;> intros <;> omega

theorem start : Statement .start := ⟨rfl, rfl⟩

theorem fxpDecode : Statement .fxpDecode := ⟨rfl, rfl⟩

theorem fxpEncode : Statement .fxpEncode := ⟨rfl, rfl⟩

theorem hdrEncode : Statement .hdrEncode := ⟨rfl, rfl⟩

theorem hdrDecode : Statement .hdrDecode := ⟨rfl, rfl⟩

theorem sidEncode : Statement .sidEncode := ⟨rfl, rfl⟩

theorem sidDecode : Statement .sidDecode := ⟨rfl, rfl⟩

theorem ctxEncodeAlt : Statement .ctxEncodeAlt := ⟨rfl, rfl⟩

theorem ctxEncodeStd : Statement .ctxEncodeStd := ⟨rfl, rfl⟩

theorem ctxDecode : Statement .ctxDecode := ⟨rfl, rfl⟩

theorem tsAdvance : Statement .tsAdvance := ⟨rfl, rfl⟩

theorem tsReset : Statement .tsReset := ⟨rfl, rfl⟩

theorem tsTick : Statement .tsTick := ⟨rfl, rfl⟩

theorem txPush : Statement .txPush := ⟨rfl, rfl⟩

theorem txSetTime : Statement .txSetTime := ⟨rfl, rfl⟩

theorem txSetStatic : Statement .txSetStatic := ⟨rfl, rfl⟩

theorem rxUnit : Statement .rxUnit := ⟨rfl, rfl⟩

theorem tcpRxAccept : Statement .tcpRxAccept := ⟨rfl, rfl⟩

theorem tcpRxBytes : Statement .tcpRxBytes := ⟨rfl, rfl⟩

theorem tcpRxPoll : Statement .tcpRxPoll := ⟨rfl, rfl⟩

theorem tcpRxDisconnect : Statement .tcpRxDisconnect := ⟨rfl, rfl⟩

theorem udpRxDatagram : Statement .udpRxDatagram := ⟨rfl, rfl⟩

theorem txLinkDown : Statement .txLinkDown := ⟨rfl, rfl⟩

theorem txLinkUp : Statement .txLinkUp := ⟨rfl, rfl⟩

theorem transportFail : Statement .transportFail := ⟨rfl, rfl⟩

end Sys2Proof.Laws.Format
end

