-- ==== Sys2Proof/Tests/Slice0.lean ====
section
/-! SUPPORT. Tests. Expected results are those of spec/95_test_vectors.md (the vector's name stands in the comment) or of
hand calculation from the rule named. The last part gives, for every statement with hypotheses, states and operands that
meet them. -/

namespace Sys2Proof.Tests

-- One theorem at a time: many kernel evaluations at once take a thread each.
set_option Elab.async false

open Sys2Proof Sys2Proof.Machine

/-! ### Helpers -/

/-- Bytes from numbers. -/
def hx (l : List Nat) : List Byte := l.map (BitVec.ofNat 8)

/-- A 32-bit number operand. -/
def num (v : Word32) : Operand := .word (v.setWidth 64)

/-- The next state of an outcome. -/
def nextOf : Host.Outcome State Fault Refusal → State
  | .next t => t
  | .fault _ => State.reset
  | .refused _ => State.reset

/-- A state whose receive buffer size is a number, so that it evaluates. -/
def idle : State := { State.reset with rxBufBytes := 65536 }

/-- The configuration of program P1. -/
def p1Cfg : CfgRegs :=
  { CfgRegs.reset with
    bitDepth := 16, spp := 4, ctxSize := 72, ctxInterval := 2, streamId := 0x12345678, oui := 0x001122
    classCode := 0x00010002, sampleRate := 0x412E848000000000, bandwidth := 0x41286A0000000000, t0Full := 100 }

/-- A running sink configured as in program P1. -/
def sink : State :=
  { idle with phase := .run, cfg := p1Cfg, tsRef := ⟨100, 0⟩, sendDraws := [true, true, true] }

/-- A running sink with TCP. -/
def sinkTcp : State := { sink with cfg := { p1Cfg with ctrl := 2 } }

/-- A running 16-bit source with a CFG_CTRL value. -/
def source (ctrl : Word32) : State :=
  { idle with phase := .run, cfg := { CfgRegs.reset with ctrl := ctrl, bitDepth := 16, expectSid := 0x12345678 } }

/-- The state after one command with its operands. -/
def run1 (w : Word32) (ops : List Operand) (s : State) : State := nextOf (step { s with cmdq := [⟨w, ops⟩] })

/-- Vector CTX-1. -/
def ctx1 : List Byte :=
  hx [0x49, 0, 0, 0x12, 0x12, 0x34, 0x56, 0x78, 0, 0, 0x11, 0x22, 0, 1, 0, 2]
    ++ hx [0, 0, 0, 0, 0, 0, 0, 0xc3, 0x50, 0, 0, 0, 0, 0, 0, 0] ++ hx [0, 0, 0, 0, 0, 0, 0, 0, 0, 0, 0, 0, 0, 0, 0, 0]
    ++ hx [0, 0, 0, 0, 0, 0, 0, 0xf4, 0x24, 0, 0, 0, 0, 0, 0, 0] ++ hx [0, 0, 0, 0x0f, 0, 0, 0, 0]

/-- Vector CTX-2. -/
def ctx2 : List Byte :=
  hx [0x49, 0, 0, 0x1b, 0xa0, 0xb0, 0xc0, 0xd0, 0, 0xff, 0xee, 0xdd, 0, 3, 0, 4]
    ++ hx [0, 0, 0x03, 0xe8, 0, 0, 0, 0x74, 0x6a, 0x52, 0x88, 0, 0x80, 0, 0, 0]
    ++ hx [0, 0, 0, 0x11, 0, 0, 0x1d, 0x4c, 0, 0, 0, 0, 1, 2, 3, 4]
    ++ hx [5, 6, 7, 8, 0x11, 0x12, 0x13, 0x14, 0x15, 0x16, 0x17, 0x18, 0x21, 0x22, 0x23, 0x24]
    ++ hx [0x25, 0x26, 0x27, 0x28, 0, 0, 0, 0x31, 0, 0, 0, 0x41, 0, 0, 0x1d, 0x4c]
    ++ hx [0, 0, 0, 0, 0, 0, 0, 0, 0, 0, 0, 0x51, 0, 0, 0, 0x61] ++ hx [0, 0, 0, 0x71, 0, 0, 0, 7, 0, 0, 0, 0]

/-- A 28-byte data unit of program P2 with a sequence, stream identifier 0x12345678. -/
def dataUnit (seq : Nat) : List Byte :=
  hx [0x18, 0xe0 + seq, 0, 7, 0x12, 0x34, 0x56, 0x78, 0, 0, 0, 7, 0, 0, 0, 0, 0, 0, 0, 0]
    ++ hx [0, 0, 0, 1, 0, 1, 0xff, 0xff]

/-- The samples of a unit of `dataUnit`. -/
def unitSamples : List Sample := [(0, 1), (1, -1)]

/-! ### Command words (R145, R147), every constructor -/

theorem test_decode_control :
    decode 0x01000000 = .ok .softReset ∧ decode 0x02000008 = .ok (.regWrite 0x008) ∧
    decode 0x0300001C = .ok (.regRead 0x01C) ∧ decode 0x04000000 = .ok .start := by decide +kernel

theorem test_decode_codecs :
    decode 0x10000000 = .ok .fxpDecode ∧ decode 0x11000000 = .ok .fxpEncode ∧ decode 0x20000000 = .ok .hdrEncode ∧
    decode 0x21000000 = .ok .hdrDecode ∧ decode 0x22000000 = .ok .sidEncode ∧ decode 0x23000000 = .ok .sidDecode ∧
    decode 0x30000000 = .ok .ctxEncodeAlt ∧ decode 0x30000001 = .ok .ctxEncodeStd ∧
    decode 0x31000000 = .ok .ctxDecode := by decide +kernel

theorem test_decode_streams :
    decode 0x40000000 = .ok .tsAdvance ∧ decode 0x41000000 = .ok .tsReset ∧ decode 0x42000000 = .ok .tsTick ∧
    decode 0x50000000 = .ok .txPush ∧ decode 0x51000000 = .ok .txSetTime ∧ decode 0x52000000 = .ok .txSetStatic ∧
    decode 0x60000000 = .ok .rxUnit := by decide +kernel

theorem test_decode_transport :
    decode 0x70000000 = .ok .tcpRxAccept ∧ decode 0x71000000 = .ok .tcpRxBytes ∧ decode 0x72000000 = .ok .tcpRxPoll ∧
    decode 0x73000000 = .ok .tcpRxDisconnect ∧ decode 0x74000000 = .ok .udpRxDatagram ∧
    decode 0x75000000 = .ok .txLinkDown ∧ decode 0x76000000 = .ok .txLinkUp ∧
    decode 0x77000000 = .ok .transportFail := by decide +kernel

/-- Reserved OP values at the ends of the gaps of R148, and bits a format gives as 0. -/
theorem test_decode_reserved :
    decode 0x00000000 = .error (.reservedOp 0x00) ∧ decode 0x05000000 = .error (.reservedOp 0x05) ∧
    decode 0x78000000 = .error (.reservedOp 0x78) ∧ decode 0xFF000000 = .error (.reservedOp 0xFF) ∧
    decode 0x04000001 = .error (.reservedBits 0x04) ∧ decode 0x02001000 = .error (.reservedBits 0x02) ∧
    decode 0x30000002 = .error (.reservedBits 0x30) := by decide +kernel

theorem test_encode :
    encode (.regWrite 0x008) = 0x02000008 ∧ encode .ctxEncodeStd = 0x30000001 ∧ encode .transportFail = 0x77000000 := by
  decide +kernel

theorem test_table_word : decodeTableWord 32 0x03000104 = some (.regRead 0x104) ∧ decodeTableWord 32 0x78000000 = none := by
  decide +kernel

/-- The word placed by withFetchWord is the one the next step performs, with zero operands (log 3). -/
theorem test_fetch_word :
    (nextOf (step (State.reset.withFetchWord 32 0x03000104))).response = some (.ok (.u64 0)) ∧
    (nextOf (step (State.reset.withFetchWord 32 0x11000000))).response = some (.ok (.u64 0)) ∧
    (nextOf (step (State.reset.withFetchWord 32 0x77000000))).phase = .fault := by decide +kernel

/-! ### Operand lists that do not fit (log 2) -/

theorem test_wellformed_count : Instr.wellFormedWith .hdrEncode [num 0, num 0] = false := by decide

theorem test_wellformed_width : Instr.wellFormedWith .hdrDecode [.word 0x100000000] = false := by decide

theorem test_wellformed_kind :
    Instr.wellFormedWith .ctxDecode [num 0] = false ∧ Instr.wellFormedWith .txPush [.bytes []] = false ∧
    Instr.wellFormedWith .fxpEncode [.samples []] = false := by decide

theorem test_wellformed_extra : Instr.wellFormedWith .start [num 0] = false := by decide

theorem test_wellformed_good :
    Instr.wellFormedWith .hdrEncode [num 0xFFFFFFFF, num 0, num 9] = true ∧ Instr.wellFormedWith .start [] = true := by
  decide

theorem test_misfit_is_refused :
    (run1 0x21000000 [.word 0x100000000] idle).response = some (.refused .badOperand) ∧
    (run1 0x31000000 [num 0] idle).response = some (.refused .badOperand) := by decide +kernel

/-! ### Assembler and pseudo-commands (R151, R152) -/

theorem test_assemble_examples :
    assemble "REG_WRITE CFG_SPP, 4 ; four".toList = some [⟨0x02000008, [.word 4]⟩] ∧
    assemble "TX_PUSH [(1, -1), (2,-2)]".toList = some [⟨0x50000000, [.samples [(1, -1), (2, -2)]]⟩] ∧
    assemble "SID_DECODE bytes(12 34 56 78)".toList
      = some [⟨0x23000000, [.bytes (hx [0x12, 0x34, 0x56, 0x78])]⟩] := by decide +kernel

theorem test_assemble_pseudo :
    assemble "CONFIGURE CFG_CTRL=1, CFG_BIT_DEPTH=0x10".toList
      = some [⟨0x02000000, [.word 1]⟩, ⟨0x02000004, [.word 16]⟩] ∧
    assemble "TS_NEXT".toList = some [⟨0x40000000, []⟩, ⟨0x42000000, []⟩] ∧
    assemble "CTX_ENCODE 0".toList = none := by decide +kernel

/-! ### Control -/

/-- R360's example and corner cases; P5. -/
theorem test_regWrite :
    (run1 0x02000008 [num 4] idle).cfg.spp = 4 ∧
    (run1 0x0200001C [num 1] idle).response = some (.refused .badOperand) ∧
    (run1 0x02000088 [.word 1000000000000] idle).response = some (.refused .badOperand) ∧
    (run1 0x02000054 [num 1] idle).response = some (.refused .badAddress) ∧
    (run1 0x02000104 [num 1] idle).response = some (.refused .illegalCommand) ∧
    (run1 0x02000008 [num 4] sink).response = some (.refused .wrongPhase) := by decide +kernel

/-- R362's example; STATUS of a source after program P2's units is 0xC5. -/
theorem test_regRead :
    (run1 0x0300001C [] idle).response = some (.ok (.u64 0x18E00000)) ∧
    (run1 0x03000100 [] (run1 0x60000000 [.bytes (dataUnit 5), num 2] (source 1))).response = some (.ok (.u64 0xC5)) := by
  decide +kernel

/-- P1's START, and R364's example. -/
theorem test_start :
    (run1 0x04000000 [] { idle with cfg := p1Cfg }).phase = .run ∧
    (run1 0x04000000 [] { idle with cfg := p1Cfg }).tsRef = ⟨100, 0⟩ ∧
    (run1 0x04000000 [] { idle with cfg := { p1Cfg with spp := 1 } }).response = some (.fault .cfgSpp) ∧
    (run1 0x04000000 [] { idle with cfg := { p1Cfg with spp := 1 } }).errCode = 0x01 := by decide +kernel

/-- R366's example. -/
theorem test_softReset :
    (run1 0x01000000 [] { sink with phase := .fault, errCode := 0x21 }).errCode = 0 ∧
    (run1 0x01000000 [] { sink with phase := .fault, errCode := 0x21 }).phase = .config := by decide +kernel

/-- P5: in FAULT a stream command is refused. -/
theorem test_in_fault :
    (run1 0x50000000 [.samples [(1, 1)]] { sink with phase := .fault }).response = some (.refused .inFault) := by
  decide +kernel

/-! ### Codecs -/

/-- FD4, FD9, FD10, FD11. -/
theorem test_fxpDecode :
    fxpToF64 1 = 0x3EB0000000000000 ∧ fxpToF64 0xFFFFFFFFFFFFFFFF = 0x42B0000000000000 ∧
    fxpToF64 0x0020000000000001 = 0x4200000000000000 ∧ fxpToF64 0x001FFFFFFFFFFFFF = 0x41FFFFFFFFFFFFFF := by
  decide +kernel

/-- FE2, FE3, FE6, FE8, FE9, FE13, FE15, FE17. -/
theorem test_fxpEncode :
    fxpOfF64 0x8000000000000000 = some 0 ∧ fxpOfF64 0x3FDFFFFFFFFFFFFF = some 0 ∧
    fxpOfF64 0x4004000000000000 = some 0x300000 ∧ fxpOfF64 0xBFD999999999999A = some 0 ∧
    fxpOfF64 0xBFE0000000000000 = none ∧ fxpOfF64 0x42AFFFFFFFFFFE00 = some 0xFFFFFFFFFFF00000 ∧
    fxpOfF64 0x42AFFFFFFFFFFF00 = none ∧ fxpOfF64 0x7FF0000000000000 = none := by decide +kernel

/-- H3, H9. -/
theorem test_hdrEncode :
    (run1 0x20000000 [num 0x49000000, num 15, num 27] idle).response = some (.ok (.u32 0x490F001B)) ∧
    (run1 0x20000000 [num 0x18E00000, num 16, num 9] idle).response = some (.refused .badOperand) := by decide +kernel

/-- H4. -/
theorem test_hdrDecode : (run1 0x21000000 [num 0x18E3001B] idle).response
    = some (.ok (.header ⟨1, 3, 27, 0x18E00000, 0x18E, true⟩)) := by decide +kernel

/-- H11. -/
theorem test_sidEncode :
    (run1 0x22000000 [num 0x12345678] idle).response = some (.ok (.bytes (hx [0x12, 0x34, 0x56, 0x78]))) := by
  decide +kernel

/-- H12, H13. -/
theorem test_sidDecode :
    (run1 0x23000000 [.bytes (hx [0x12, 0x34, 0x56, 0x78])] idle).response = some (.ok (.u32 0x12345678)) ∧
    (run1 0x23000000 [.bytes (hx [0x12, 0x34, 0x56])] idle).response = some (.refused .badLength) := by decide +kernel

/-- The operands of CTX-1. -/
def ctx1Vals : List Word64 :=
  [0x49000012, 0x12345678, 0x0000112200010002, 0, 0x000000C350000000, 0, 0, 0, 0x000000F424000000, 0,
   0x0000000F00000000]

/-- The operands of CTX-2. -/
def ctx2Vals : List Word64 :=
  [0x4900001B, 0xA0B0C0D0, 0x00FFEEDD00030004, 1000, 500000000000, 0x80000000, 0x11, 0x00001D4C00000000,
   0x0102030405060708, 0x1112131415161718, 0x2122232425262728, 0x31, 0x41, 0x00001D4C00000000, 0x51, 0x61, 0x71,
   0x0000000700000000]

/-- CTX-1 and CX4. -/
theorem test_ctxEncodeAlt :
    (run1 0x30000000 (ctx1Vals.map .word) idle).response = some (.ok (.bytes ctx1)) ∧
    (run1 0x30000000 (((0x100000000 : Word64) :: ctx1Vals.tail).map .word) idle).response
      = some (.refused .badOperand) := by decide +kernel

/-- CTX-2 and CX3. -/
theorem test_ctxEncodeStd :
    (run1 0x30000001 (ctx2Vals.map .word) idle).response = some (.ok (.bytes ctx2)) ∧
    (run1 0x30000001 (ctx1Vals.map .word) idle).response = some (.refused .badOperand) := by decide +kernel

/-- CTX-1, CTX-2 and CX1. -/
theorem test_ctxDecode :
    (ctxRecord .alt ctx1).rawFields = ctx1Vals.map BitVec.toNat ∧
    (ctxRecord .alt ctx1).bandwidth = 0x41286A0000000000 ∧ (ctxRecord .alt ctx1).bitDepth = 16 ∧
    (ctxRecord .std ctx2).rawFields = ctx2Vals.map BitVec.toNat ∧
    (ctxRecord .std ctx2).sampleRate = 0x417D4C0000000000 ∧ (ctxRecord .std ctx2).bitDepth = 8 ∧
    (run1 0x31000000 [.bytes (List.replicate 100 0)] idle).response = some (.refused .badLength) := by decide +kernel

/-! ### Timestamp engine -/

/-- The state of a T vector. -/
def tState (full : Word32) (frac psr : Word64) (spp : Word32) (rate : Word64) : State :=
  { sink with tsRef := ⟨full, frac⟩, tsPsr := psr, cfg := { p1Cfg with spp := spp, sampleRate := rate } }

/-- T1, T7, T8. -/
theorem test_tsAdvance :
    (tState 10 999999999999 1 4 0x412E848000000000).advance = some ⟨11, 3999999⟩ ∧
    (tState 0 999999999999 1 1 0x4008000000000000).advance = some ⟨1, 333333333332⟩ ∧
    (tState 0xFFFFFFFF 999999999999 250000 4 0x412E848000000000).advance = some ⟨0, 999999999999⟩ := by decide +kernel

/-- T13 (1e-308) and T15. -/
theorem test_tsAdvance_stops :
    (run1 0x40000000 [] (tState 0 0 1 4 0x000730D67819E8D2)).response = some (.fault .tsRange) ∧
    (run1 0x40000000 [] (source 1)).response = some (.refused .badConfig) := by decide +kernel

/-- T16, T17. -/
theorem test_tsReset :
    (run1 0x41000000 [num 10, .word 999999999999] sink).tsRef = ⟨10, 999999999999⟩ ∧
    (run1 0x41000000 [num 0, .word 1000000000000] sink).response = some (.refused .badOperand) := by decide +kernel

/-- R246's wrap. -/
theorem test_tsTick : (run1 0x42000000 [] { sink with tsPsr := 0xFFFFFFFFFFFFFFFF }).tsPsr = 0 := by decide +kernel

/-! ### Transmit framer -/

/-- The batch of program P1. -/
def p1Batch : List Sample := [(1, -1), (2, -2), (3, -3), (4, -4), (5, -5), (6, -6), (7, -7), (8, -8)]

/-- P1: the context packet CTX-1, then the two data packets. -/
theorem test_txPush :
    (run1 0x50000000 [.samples p1Batch] sink).response = some (.ok (.pushed 8 3)) ∧
    (run1 0x50000000 [.samples p1Batch] sink).egress =
      [ctx1,
       hx [0x18, 0xe0, 0, 9, 0x12, 0x34, 0x56, 0x78, 0, 0, 0, 0x64, 0, 0, 0, 0, 0, 0, 0, 0]
         ++ hx [0, 1, 0xff, 0xff, 0, 2, 0xff, 0xfe, 0, 3, 0xff, 0xfd, 0, 4, 0xff, 0xfc],
       hx [0x18, 0xe1, 0, 9, 0x12, 0x34, 0x56, 0x78, 0, 0, 0, 0x64, 0, 0, 0, 0, 0, 0x3d, 9, 0]
         ++ hx [0, 5, 0xff, 0xfb, 0, 6, 0xff, 0xfa, 0, 7, 0xff, 0xf9, 0, 8, 0xff, 0xf8]] := by decide +kernel

/-- X5, X6, X10. -/
theorem test_txPush_stops :
    (run1 0x50000000 [.samples [(1, 1), (-32769, 0)]] sink).response = some (.refused .badOperand) ∧
    (run1 0x50000000 [.samples (p1Batch.take 4)] { sinkTcp with linkUp := false }).response = some (.ok (.pushed 0 0)) ∧
    (run1 0x50000000 [.samples (p1Batch.take 4)] { sink with sendDraws := [false] }).response
      = some (.fault .transportSend) ∧
    (run1 0x50000000 [.samples (p1Batch.take 4)] { sink with sendDraws := [false] }).txAccCount = 4 := by decide +kernel

/-- R270's example, X9. -/
theorem test_txSetTime :
    (run1 0x51000000 [num 200, .word 0] { sink with tsPsr := 3 }).tsRef = ⟨200, 0⟩ ∧
    (run1 0x51000000 [num 0, .word 1000000000000] sink).response = some (.refused .badOperand) := by decide +kernel

/-- X7, X8. -/
theorem test_txSetStatic :
    (run1 0x52000000 [num 0x18F00000] sink).txStatic = 0x18F00000 ∧
    (run1 0x52000000 [num 0x18F00001] sink).response = some (.refused .badOperand) := by decide +kernel

/-! ### Receive framer -/

/-- The header record of a unit (R82, R200): program P2's, CTX-1's, and a 7-byte unit's, which has no identifier. -/
theorem test_parseHeader :
    parseHeader (dataUnit 4) = ⟨1, 4, some 0x12345678, 7, 0x18E⟩ ∧
    parseHeader ctx1 = ⟨4, 0, some 0x12345678, 18, 0x490⟩ ∧
    parseHeader ((dataUnit 4).take 7) = ⟨1, 4, none, 7, 0x18E⟩ := by decide +kernel

/-- P2: the unit with sequence 4 after sequence 2. -/
theorem test_rxUnit :
    (run1 0x60000000 [.bytes (dataUnit 4), num 2] { source 1 with rxLastSeq := ⟨true, 2⟩, rxOutIndex := 6 }).response
      = some (.ok (.received (some ⟨unitSamples, 7, 0⟩))) ∧
    (run1 0x60000000 [.bytes (dataUnit 4), num 2] { source 1 with rxLastSeq := ⟨true, 2⟩, rxOutIndex := 6 }).events
      = [.gap 6 4 3 28] := by decide +kernel

/-- V4, V7, and P6 under warn-and-forward. -/
theorem test_rxUnit_mismatch :
    (run1 0x60000000 [.bytes ((dataUnit 0).take 19), num 2] (source 0x11)).events = [.warn (.proto .dataLength) 19] ∧
    (run1 0x60000000 [.bytes (beWrite (dataUnit 0) 4 4 0x0BADBEEF), num 2] (source 0x21)).response
      = some (.fault (.proto .streamId)) ∧
    (run1 0x60000000 [.bytes ctx2, num 2] (source 0x11)).events = [.warn (.proto .ctxBitDepth) 108] ∧
    (run1 0x60000000 [.bytes ctx2, num 2] (source 0x11)).tsRef = ⟨1000, 500000000000⟩ := by decide +kernel

/-! ### Transport adapter -/

/-- A connected TCP source holding bytes. -/
def tcpSource (buf inq : List Byte) : State := { source 3 with tcpPhase := .header, tcpBuf := buf, tcpIn := inq }

/-- R330's example; a second client is refused. -/
theorem test_tcpRxAccept :
    (run1 0x70000000 [] (source 3)).tcpPhase = .header ∧
    (run1 0x70000000 [] (tcpSource [] [])).response = some (.refused .wrongPhase) := by decide +kernel

/-- P3's first chunk; no client. -/
theorem test_tcpRxBytes :
    (run1 0x71000000 [.bytes (hx [0x49, 0])] (tcpSource [] [])).tcpIn = hx [0x49, 0] ∧
    (run1 0x71000000 [.bytes []] (source 3)).response = some (.refused .wrongPhase) := by decide +kernel

/-- P3's second poll: the context unit is framed, ten bytes of the data unit stay. -/
theorem test_tcpRxPoll :
    (run1 0x72000000 [num 2] (tcpSource (ctx1.take 2) (ctx1.drop 2 ++ (dataUnit 0).take 10))).response
      = some .noPacket ∧
    (run1 0x72000000 [num 2] (tcpSource (ctx1.take 2) (ctx1.drop 2 ++ (dataUnit 0).take 10))).tcpNeed = 28 ∧
    (run1 0x72000000 [num 2] (tcpSource (ctx1.take 2) (ctx1.drop 2 ++ (dataUnit 0).take 10))).tcpBuf.length = 10 ∧
    (run1 0x72000000 [num 2] (tcpSource (ctx1.take 2) (ctx1.drop 2 ++ (dataUnit 0).take 10))).pending.isSome = true := by
  decide +kernel

/-- P3's third poll, and a zero word count (R336). -/
theorem test_tcpRxPoll_ends :
    (run1 0x72000000 [num 2] (tcpSource [] (ctx1 ++ dataUnit 0))).events = [.context 0 .alt (ctxRecord .alt ctx1)] ∧
    (run1 0x72000000 [num 2] (tcpSource [] (hx [0x18, 0, 0, 0, 1]))).events = [.warn .tcpFraming 4] ∧
    (run1 0x72000000 [num 2] (tcpSource [] (hx [0x18, 0, 0, 0, 1]))).tcpPhase = .disconnected := by decide +kernel

/-- R338's example. -/
theorem test_tcpRxDisconnect : (run1 0x73000000 [] (tcpSource (hx [1, 2]) (hx [3]))).tcpBuf = [] := by decide +kernel

/-- A buffer of 71 bytes cuts the context datagram; R340's example. -/
theorem test_udpRxDatagram :
    (run1 0x74000000 [.bytes ctx1, num 2] { source 1 with rxBufBytes := 71 }).response
      = some (.fault (.proto .ctxLength)) ∧
    (run1 0x74000000 [.bytes ctx1, num 2] (source 1)).pending.isSome = true := by decide +kernel

/-- R342, R343, R345. -/
theorem test_links :
    (run1 0x75000000 [] sinkTcp).linkUp = false ∧ (run1 0x76000000 [] { sinkTcp with linkUp := false }).linkUp = true ∧
    (run1 0x75000000 [] sink).response = some (.refused .wrongDirection) ∧
    (run1 0x77000000 [] idle).errCode = 0x20 := by decide +kernel

/-! ### Witnesses: states and operands that meet the hypotheses of each statement

Each theorem is the list of a statement's hypotheses at concrete states and operands, at the ends of the ranges its
clauses speak of. A statement without hypotheses has none. -/

/-- A state with operands on the operand port. -/
def withPort (s : State) (ops : List Operand) : State := { s with port := ops }

theorem test_witness_DecodeEncodeAgree :
    decode 0x02000FFF = .ok (.regWrite 0xFFF) ∧ decode 0x77000000 = .ok .transportFail := by decide +kernel

theorem test_witness_ReservedWordsAreRefused :
    ({ idle with cmdq := [⟨0x77000000, []⟩] } : State).cmdq = ⟨0x77000000, []⟩ :: [] ∧ isCommandWord 0x77000000 ∧
    isCommandWord 0x02000FFF ∧ ¬ isCommandWord 0x02001000 ∧ ¬ isCommandWord 0x78000000 ∧
    ¬ isCommandWord 0x30000002 := by
  unfold isCommandWord
  decide +kernel

theorem test_witness_StepPerformsTheDecodedCommand :
    ({ sink with cmdq := [⟨0x42000000, []⟩] } : State).cmdq = ⟨0x42000000, []⟩ :: [] ∧
    decode 0x42000000 = .ok .tsTick ∧ sink.cmdq = [] := by decide +kernel

theorem test_witness_CommandsAreAdmittedByPhaseAndDirection :
    ({ sink with phase := .fault } : State).phase = .fault ∧ Phase.fault ∉ Instr.phases .txPush ∧
    idle.phase ≠ .fault ∧ idle.phase ∉ Instr.phases .txPush ∧
    sink.phase ∈ Instr.phases .rxUnit ∧
    Instr.fits .rxUnit (sink.cfg.ctrl.getLsbD 0) (sink.cfg.ctrl.getLsbD 1) = false ∧
    sink.phase ∈ Instr.phases .txPush ∧
    Instr.fits .txPush (sink.cfg.ctrl.getLsbD 0) (sink.cfg.ctrl.getLsbD 1) = true := by decide +kernel

theorem test_witness_FaultIsLeftOnlyByReset :
    ({ sink with phase := .fault } : State).phase = .fault ∧
    exec .softReset { sink with phase := .fault } = .next (nextOf (exec .softReset { sink with phase := .fault })) ∧
    exec (.regRead 0x104) { sink with phase := .fault }
      = .next (nextOf (exec (.regRead 0x104) { sink with phase := .fault })) ∧
    exec .txPush { sink with phase := .fault } = .next (nextOf (exec .txPush { sink with phase := .fault })) :=
  ⟨rfl, rfl, rfl, rfl⟩

theorem test_witness_ConfigurationIsFixedAfterStart :
    sink.phase ≠ .config ∧
    step { sink with cmdq := [⟨0x02000008, [num 4]⟩] }
      = .next (nextOf (step { sink with cmdq := [⟨0x02000008, [num 4]⟩] })) := ⟨by decide, rfl⟩

theorem test_witness_EgressOnlyGrows : exec .tsTick sink = .next (nextOf (exec .tsTick sink)) ∧ Instr.tsTick ≠ .txPush :=
  ⟨rfl, by decide⟩

/-- A running sink, three samples short of a packet, about to be given eight more. -/
def pushing : State :=
  { sink with txAccCount := 1, txAcc := hx [0, 1, 0, 2], cmdq := [⟨0x50000000, [.samples p1Batch]⟩] }

theorem test_witness_EveryStepKeepsTheInvariant : Inv pushing ∧ step pushing = .next (nextOf (step pushing)) where
  left :=
    { cfg := ⟨fun r => by cases r <;> decide +kernel, by decide +kernel⟩
      err := (by decide +kernel : pushing.phase = .fault ↔ pushing.errCode ≠ 0)
      run := (by decide +kernel : pushing.phase = .run → startCheck pushing = none)
      time := (by decide +kernel : pushing.tsRef.frac.toNat < picosPerSecond)
      acc := ⟨by decide +kernel, by decide +kernel, by decide +kernel⟩
      static := (by decide +kernel : pushing.txStatic.extractLsb' 0 20 = 0)
      seq := (by decide +kernel : pushing.txSeq.toNat = pushing.txPacketCount.toNat % 16)
      tcp := ⟨⟨rfl, rfl, rfl⟩, by decide +kernel⟩
      link := (by decide +kernel :
        pushing.linkUp = false → pushing.phase ≠ .config ∧ pushing.isSource = false ∧ pushing.isTcp = true) }
  right := rfl

theorem test_witness_RegReadGivesTheRegister :
    (∃ row ∈ registerMap, row.1 = 0x000) ∧ (∃ row ∈ registerMap, row.1 = 0x14C) ∧
    (∀ row ∈ registerMap, row.1 ≠ 0x054) ∧ (∀ row ∈ registerMap, row.1 ≠ 0x150) := by decide +kernel

theorem test_witness_StatusWordShowsItsFields : idle.phase = .config := rfl

theorem test_witness_RegWriteStoresALegalValue :
    idle.phase = .config ∧ (withPort idle [.word 999999999999]).port = [.word 999999999999] ∧
    (0x088, 64, 0) ∈ writableMap ∧ LegalWrite (0x088, 64, 0) 999999999999 ∧
    (0x000, 32, 0xFFFFFFC0) ∈ writableMap ∧ LegalWrite (0x000, 32, 0xFFFFFFC0) 0x3F ∧
    (0x050, 64, 0) ∈ writableMap ∧ LegalWrite (0x050, 64, 0) 0xFFFFFFFFFFFFFFFF := by
  unfold LegalWrite
  decide +kernel

theorem test_witness_RegWriteRefusals :
    idle.phase = .config ∧ (∃ e ∈ registerMap, e.1 = 0x100 ∧ 0x100 ≤ (0x100 : RegAddr).toNat) ∧
    (∃ e ∈ registerMap, e.1 = 0x14C ∧ 0x100 ≤ (0x14C : RegAddr).toNat) ∧
    (∀ e ∈ registerMap, e.1 ≠ 0x084) ∧ (∀ e ∈ registerMap, e.1 ≠ 0xFFF) ∧
    (0x088, 64, 0) ∈ writableMap ∧ (withPort idle [.word 1000000000000]).port = [.word 1000000000000] ∧
    ¬ LegalWrite (0x088, 64, 0) 1000000000000 ∧ (0x030, 32, 0xFFFF0000) ∈ writableMap ∧
    ¬ LegalWrite (0x030, 32, 0xFFFF0000) 0x10000 ∧ ¬ LegalWrite (0x008, 32, 0) 0x100000000 := by
  unfold LegalWrite
  decide +kernel

/-- The ends of the ranges of CFG_SPP: 2 and 65530 with 16 bits, 131060 with 8. -/
theorem test_witness_StartEntersRun :
    idle.phase = .config ∧ p1Cfg.bitDepth = 16 ∧ (source 1).cfg.ctrl.getLsbD 0 = true ∧
    p1Cfg.ctrl.getLsbD 0 = false ∧ 2 ≤ (2 : Word32).toNat ∧ (65530 : Word32).toNat ≤ 65530 ∧
    (131060 : Word32).toNat ≤ 131060 ∧ (131060 : Word32).toNat % 2 = 0 ∧ p1Cfg.ctxSize = 72 ∧
    (p1Cfg.ctrl.getLsbD 2 = false → p1Cfg.ctxInterval ≠ 0) ∧ f64IsPositiveFinite p1Cfg.sampleRate = true ∧
    EncodableValue p1Cfg.sampleRate ∧ EncodableValue p1Cfg.bandwidth := by
  unfold EncodableValue
  decide +kernel

theorem test_witness_StartReportsTheFirstFailure :
    idle.phase = .config ∧ (idle.cfg.bitDepth ≠ 8 ∧ idle.cfg.bitDepth ≠ 16) ∧
    p1Cfg.ctrl.getLsbD 0 = false ∧ ¬ (p1Cfg.bitDepth ≠ 8 ∧ p1Cfg.bitDepth ≠ 16) ∧
    (1 : Word32).toNat < 2 ∧ 65530 < (65531 : Word32).toNat ∧ (131059 : Word32).toNat % 2 = 1 ∧
    ¬ (p1Cfg.spp.toNat < 2 ∨ (p1Cfg.bitDepth = 16 ∧ 65530 < p1Cfg.spp.toNat) ∨
      (p1Cfg.bitDepth = 8 ∧ (131060 < p1Cfg.spp.toNat ∨ p1Cfg.spp.toNat % 2 = 1))) ∧
    ((71 : Word32) ≠ 72 ∧ (71 : Word32) ≠ 108) ∧ (p1Cfg.ctrl.getLsbD 2 = false ∧ (0 : Word32) = 0) ∧
    f64IsPositiveFinite 0 = false ∧ ¬ EncodableValue 0x42AFFFFFFFFFFF00 ∧
    ¬ (f64IsPositiveFinite p1Cfg.sampleRate = false ∨ ¬ EncodableValue p1Cfg.sampleRate) ∧
    ¬ EncodableValue 0xBFE0000000000000 := by
  unfold EncodableValue
  decide +kernel

/-- The tie 2^53 + 1, halfway between 2^53 and 2^53 + 2. -/
theorem test_witness_RoundingIsToNearestTiesToEven :
    f64IsFinite (f64OfRatio 9007199254740993 1) = true ∧ f64IsFinite 0x4340000000000001 = true ∧
    f64Sign 0x4340000000000001 = false ∧ (0x4340000000000001 : Word64) ≠ f64OfRatio 9007199254740993 1 ∧
    (((f64Mag (f64OfRatio 9007199254740993 1) : Nat) : Int) - ((9007199254740993 * f64One : Nat) : Int)).natAbs
      = (((f64Mag 0x4340000000000001 : Nat) : Int) - ((9007199254740993 * f64One : Nat) : Int)).natAbs := by
  decide +kernel

/-- Thirds of the midpoint above the largest finite value, one below it and at it: the largest finite value, and +∞. -/
theorem test_rounding_overflow :
    f64OfRatio (3 * (2 ^ 54 - 1) * 2 ^ 970 - 1) 3 = 0x7FEFFFFFFFFFFFFF ∧
    f64OfRatio (3 * (2 ^ 54 - 1) * 2 ^ 970) 3 = 0x7FF0000000000000 := by decide +kernel

theorem test_witness_FxpDecodeAnswersTheRoundedValue :
    idle.phase ≠ .fault ∧ (withPort idle [.word 0xFFFFFFFFFFFFFFFF]).port = [.word 0xFFFFFFFFFFFFFFFF] := by
  decide +kernel

theorem test_witness_FxpDecodeIsExactOnIntegers :
    idle.phase ≠ .fault ∧ 17592186044415 < 2 ^ 44 ∧
    (withPort idle [.word (BitVec.ofNat 64 17592186044415 <<< 20)]).port
      = [.word (BitVec.ofNat 64 17592186044415 <<< 20)] := by decide +kernel

/-- -0.0; 2.5 with n = 3 and 2^44 - 1 with itself; 2^44 - 0.5 and -0.5. -/
theorem test_witness_FxpEncodeRoundsHalfAway :
    idle.phase ≠ .fault ∧ (EncodableValue 0x8000000000000000 ∧ f64Sign 0x8000000000000000 = true) ∧
    (EncodableValue 0x4004000000000000 ∧ f64Sign 0x4004000000000000 = false ∧
      (2 * 3) * f64One ≤ 2 * f64Mag 0x4004000000000000 + f64One ∧
      2 * f64Mag 0x4004000000000000 + f64One < (2 * 3 + 2) * f64One) ∧
    (EncodableValue 0x42AFFFFFFFFFFE00 ∧
      (2 * 17592186044415) * f64One ≤ 2 * f64Mag 0x42AFFFFFFFFFFE00 + f64One ∧
      2 * f64Mag 0x42AFFFFFFFFFFE00 + f64One < (2 * 17592186044415 + 2) * f64One) ∧
    ¬ EncodableValue 0x42AFFFFFFFFFFF00 ∧ ¬ EncodableValue 0xBFE0000000000000 := by
  unfold EncodableValue
  decide +kernel

theorem test_witness_FxpRoundTrip :
    17592186044415 < 2 ^ 44 ∧ fxpOfF64 0x4004000000000000 = some 0x300000 ∧ fxpOfF64 0xBFD999999999999A = some 0 := by
  decide +kernel

theorem test_witness_HdrEncodePacksTheFields :
    idle.phase ≠ .fault ∧ (0x18E00001 : Word32).toNat % 2 ^ 20 ≠ 0 ∧ 15 < (16 : Word32).toNat ∧
    0xFFFF < (0x10000 : Word32).toNat ∧ (0xFFF00000 : Word32).toNat % 2 ^ 20 = 0 ∧ (15 : Word32).toNat ≤ 15 ∧
    (0xFFFF : Word32).toNat ≤ 0xFFFF ∧
    (withPort idle [num 0xFFF00000, num 15, num 0xFFFF]).port = [num 0xFFF00000, num 15, num 0xFFFF] := by
  decide +kernel

theorem test_witness_HdrDecodeGivesTheFields :
    idle.phase ≠ .fault ∧ (withPort idle [num 0xFFFFFFFF]).port = [num 0xFFFFFFFF] := by decide +kernel

theorem test_witness_HeaderRoundTrip :
    idle.phase ≠ .fault ∧ (0x18E00000 : Word32).toNat % 2 ^ 20 = 0 ∧ (15 : Word32).toNat ≤ 15 ∧
    (0xFFFF : Word32).toNat ≤ 0xFFFF ∧
    exec .hdrEncode (withPort idle [num 0x18E00000, num 15, num 0xFFFF])
      = .next ((withPort idle [num 0x18E00000, num 15, num 0xFFFF]).ok (.u32 0x18EFFFFF)) :=
  ⟨by decide, by decide, by decide, by decide, rfl⟩

theorem test_witness_SidCodecIsBigEndian :
    idle.phase ≠ .fault ∧ (withPort idle [num 0x12345678]).port = [num 0x12345678] ∧
    (withPort idle [.bytes (hx [1, 2, 3, 4])]).port = [.bytes [1, 2, 3, 4]] ∧ (hx [1, 2, 3]).length ≠ 4 := by
  decide +kernel

theorem test_witness_CtxEncodeWritesEveryField :
    idle.phase ≠ .fault ∧ (withPort idle (ctx1Vals.map .word)).port = ctx1Vals.map .word ∧
    ctx1Vals.length = altFields.length ∧ (∀ p ∈ altFields.zip ctx1Vals, p.2.toNat < 256 ^ p.1.2) ∧
    ctx2Vals.length = stdFields.length ∧ (∀ p ∈ stdFields.zip ctx2Vals, p.2.toNat < 256 ^ p.1.2) := by decide +kernel

theorem test_witness_CtxEncodeRefusesMisfits :
    idle.phase ≠ .fault ∧ (ctx2Vals.map Operand.word).length ≠ altFields.length ∧
    altFields[0]? = some (0, 4) ∧ ([Operand.word 0x100000000])[0]? = some (.word 0x100000000) ∧
    256 ^ 4 ≤ (0x100000000 : Word64).toNat ∧ stdFields[16]? = some (96, 4) := by decide +kernel

theorem test_witness_CtxDecodeReadsEveryField :
    idle.phase ≠ .fault ∧ (withPort idle [.bytes ctx1]).port = [.bytes ctx1] ∧ ctx1.length = 72 ∧ ctx2.length = 108 ∧
    (ctx1.take 71).length ≠ 72 ∧ (ctx1.take 71).length ≠ 108 := by decide +kernel

theorem test_witness_ContextRoundTrip :
    (nextOf (exec .ctxEncodeAlt (withPort idle (ctx1Vals.map .word)))).response = some (.ok (.bytes ctx1)) ∧
    (nextOf (exec .ctxEncodeStd (withPort idle (ctx2Vals.map .word)))).response = some (.ok (.bytes ctx2)) ∧
    exec .ctxEncodeAlt (withPort idle (ctx1Vals.map .word))
      = .next (nextOf (exec .ctxEncodeAlt (withPort idle (ctx1Vals.map .word)))) :=
  ⟨by decide +kernel, by decide +kernel, rfl⟩

/-- A rate of 0; a quotient that overflows (T13); sums just below and at 10^12 (T2, T9). -/
theorem test_witness_TsAdvanceExtrapolates :
    sink.phase = .run ∧ f64IsPositiveFinite (source 1).cfg.sampleRate = false ∧
    f64IsPositiveFinite 0x000730D67819E8D2 = true ∧
    f64IsFinite (f64Div (f64OfNat (1 * 4)) 0x000730D67819E8D2) = false ∧
    (f64IsPositiveFinite 0x409F400000000000 = true ∧ elapsedF64 1 1000 0x409F400000000000 = 0x3FE0000000000000 ∧
      f64IsFinite 0x3FE0000000000000 = true ∧ elapsedSplit 0x3FE0000000000000 = (0, 500000000000) ∧
      499999999999 + 500000000000 < 1000000000000 ∧ 1000000000000 ≤ 500000000000 + 500000000000) := by decide +kernel

theorem test_witness_TsAdvanceKeepsTheFractionLegal :
    sink.tsRef.frac.toNat < 1000000000000 ∧ exec .tsAdvance sink = .next (nextOf (exec .tsAdvance sink)) ∧
    (nextOf (exec .tsAdvance sink)).response = some (.ok (.time ⟨100, 0⟩)) :=
  ⟨by decide +kernel, rfl, by decide +kernel⟩

theorem test_witness_TsAdvanceAtTheReference :
    sink.phase = .run ∧ f64IsPositiveFinite sink.cfg.sampleRate = true ∧ sink.tsPsr = 0 ∧
    sink.tsRef.frac.toNat < 1000000000000 := by decide +kernel

theorem test_witness_TimeIsSetByReference :
    sink.phase = .run ∧ (withPort sink [num 0xFFFFFFFF, .word 999999999999]).port = [num 0xFFFFFFFF, .word 999999999999] ∧
    (999999999999 : Word64).toNat < 1000000000000 ∧ 1000000000000 ≤ (1000000000000 : Word64).toNat ∧
    sink.cfg.ctrl.getLsbD 0 = false := by decide +kernel

theorem test_witness_TsTickCountsOnePacket : sink.phase = .run := rfl

theorem test_witness_TxPushAccumulates :
    sink.phase = .run ∧ sink.cfg.ctrl.getLsbD 0 = false ∧
    (withPort sink [.samples (p1Batch.take 3)]).port = [.samples (p1Batch.take 3)] ∧
    (∀ p ∈ p1Batch.take 3, sink.laneOk p = true) ∧ sink.cfg.ctrl.getLsbD 1 = false ∧
    sink.txAcc.length = sink.txAccCount.toNat * (2 * (sink.cfg.bitDepth.toNat / 8)) ∧
    sink.txAccCount.toNat + (p1Batch.take 3).length < sink.cfg.spp.toNat := by decide +kernel

/-- A running sink configured to send CTX-2. -/
def stdSink : State :=
  { sink with
    cfg :=
      { p1Cfg with
        bitDepth := 8, ctxSize := 108, streamId := 0xA0B0C0D0, oui := 0xFFEEDD, classCode := 0x00030004
        cif := 0x80000000, refPoint := 0x11, bandwidth := 0x417D4C0000000000, ifRefFreq := 0x0102030405060708
        rfRefFreq := 0x1112131415161718, ifBandOffset := 0x2122232425262728, refLevel := 0x31, gain := 0x41
        sampleRate := 0x417D4C0000000000, tsAdj := 0x51, tsCal := 0x61, stateEvent := 0x71 } }

/-- Due with a count of 0; not due with a count of 1; both context sizes. -/
theorem test_witness_TxPushSendsAFullPacket :
    sink.phase = .run ∧ sink.cfg.ctrl.getLsbD 0 = false ∧ (∀ p ∈ p1Batch.take 4, sink.laneOk p = true) ∧
    sink.cfg.ctrl.getLsbD 1 = false ∧ p1Batch.take 4 ≠ [] ∧
    sink.txAcc.length = sink.txAccCount.toNat * (2 * (sink.cfg.bitDepth.toNat / 8)) ∧
    sink.txAccCount.toNat + (p1Batch.take 4).length = sink.cfg.spp.toNat ∧ sink.advance = some ⟨100, 0⟩ ∧
    (sink.cfg.ctrl.getLsbD 2 = false ∧ sink.txPacketCount.toNat % sink.cfg.ctxInterval.toNat = 0) ∧
    sink.sendDraws = true :: true :: [true] ∧
    ¬ (sink.cfg.ctrl.getLsbD 2 = false ∧ (1 : Word64).toNat % sink.cfg.ctxInterval.toNat = 0) ∧
    sink.cfg.bitDepth ≠ 0 ∧ fxpOfF64 sink.cfg.bandwidth = some 0x000000C350000000 ∧
    fxpOfF64 sink.cfg.sampleRate = some 0x000000F424000000 ∧ sink.cfg.ctxSize = 72 ∧ stdSink.cfg.bitDepth ≠ 0 ∧
    fxpOfF64 stdSink.cfg.bandwidth = some 0x00001D4C00000000 ∧
    fxpOfF64 stdSink.cfg.sampleRate = some 0x00001D4C00000000 ∧ stdSink.cfg.ctxSize = 108 := by decide +kernel

/-- The fields a sink's context packet holds are those of CTX-1 (P1) and of CTX-2. -/
theorem test_contextFields :
    sink.altContextFor 0x000000C350000000 0x000000F424000000 = ctx1Vals.map BitVec.toNat ∧
    stdSink.stdContextFor ⟨1000, 500000000000⟩ 0x00001D4C00000000 0x00001D4C00000000 = ctx2Vals.map BitVec.toNat := by
  decide +kernel

/-- The sink's context packet of the standard profile is CTX-2. -/
theorem test_buildContext_std : stdSink.buildContext ⟨1000, 500000000000⟩ = ctx2 := by decide +kernel

/-- A running sink with program P1's samples on the operand port and an elapsed time that overflows (T13). -/
def overflowing : State :=
  { withPort sink [.samples p1Batch] with tsPsr := 1, cfg := { p1Cfg with sampleRate := 0x000730D67819E8D2 } }

/-- FE18 and T13: START accepts the rate, and the first packet it spoils ends the stream with nothing sent. -/
theorem test_txPush_range :
    startCheck { idle with cfg := { p1Cfg with sampleRate := 0x000730D67819E8D2 } } = none ∧
    (nextOf (exec .txPush overflowing)).response = some (.fault .tsRange) ∧
    (nextOf (exec .txPush overflowing)).egress = [] ∧ (nextOf (exec .txPush overflowing)).txAccCount = 4 := by
  decide +kernel

/-- An infinite elapsed time. A failure of the context packet, of a data packet with none due, and of a data packet behind its context packet. -/
theorem test_witness_TxPushSendFailureIsFatal :
    sink.phase = .run ∧ sink.cfg.ctrl.getLsbD 0 = false ∧ (∀ p ∈ p1Batch.take 4 ++ p1Batch.drop 4, sink.laneOk p = true) ∧
    sink.cfg.ctrl.getLsbD 1 = false ∧ p1Batch.take 4 ≠ [] ∧
    sink.txAcc.length = sink.txAccCount.toNat * (2 * (sink.cfg.bitDepth.toNat / 8)) ∧
    sink.txAccCount.toNat + (p1Batch.take 4).length = sink.cfg.spp.toNat ∧ sink.advance = some ⟨100, 0⟩ ∧
    ({ sink with sendDraws := [false] } : State).sendDraws = false :: [] ∧
    (sink.cfg.ctrl.getLsbD 2 = false ∧ sink.txPacketCount.toNat % sink.cfg.ctxInterval.toNat = 0) ∧
    ({ sink with sendDraws := [true, false] } : State).sendDraws = true :: false :: [] ∧
    overflowing.phase = .run ∧ overflowing.port = [.samples (p1Batch.take 4 ++ p1Batch.drop 4)] ∧
    overflowing.txAccCount.toNat + (p1Batch.take 4).length = overflowing.cfg.spp.toNat ∧
    f64IsPositiveFinite overflowing.cfg.sampleRate = true ∧
    f64IsFinite (f64Div (f64OfNat (overflowing.tsPsr.toNat * overflowing.cfg.spp.toNat)) overflowing.cfg.sampleRate)
      = false := by decide +kernel

theorem test_witness_TxPushRefusesOrMakesZeroProgress :
    sink.phase = .run ∧ sink.cfg.ctrl.getLsbD 0 = false ∧
    (∃ p ∈ [((0 : Int), (32768 : Int))], ¬ (-(2 ^ (16 - 1) : Int) ≤ p.2 ∧ p.2 ≤ (2 ^ (16 - 1) : Int) - 1)) ∧
    (∀ p ∈ [((-32768 : Int), (32767 : Int))], -(2 ^ (16 - 1) : Int) ≤ p.1 ∧ p.2 ≤ (2 ^ (16 - 1) : Int) - 1) ∧
    sinkTcp.cfg.ctrl.getLsbD 1 = true ∧ ({ sinkTcp with linkUp := false } : State).linkUp = false := by decide +kernel

/-- The state after the first push of P1's first five samples. -/
def afterFive (draws : List Bool) : State :=
  nextOf (exec .txPush (withPort { sink with sendDraws := draws } [.samples (p1Batch.take 5)]))

theorem test_witness_TxPushOfAJoinedBatch :
    sink.cfg.ctrl.getLsbD 1 = false ∧ (afterFive [true, true, true]).response = some (.ok (.pushed 5 2)) ∧
    (nextOf (exec .txPush (withPort (afterFive [true, true, true]) [.samples (p1Batch.drop 5)]))).response
      = some (.ok (.pushed 3 1)) ∧
    (nextOf (exec .txPush (withPort (afterFive [true, true, false]) [.samples (p1Batch.drop 5)]))).response
      = some (.fault .transportSend) := by decide +kernel

theorem test_witness_FirstEightSamplesEndToEnd :
    sink.phase = .run ∧ sink.cfg.ctrl = 0 ∧ sink.cfg.spp = 4 ∧ sink.cfg.bitDepth = 16 ∧ sink.cfg.ctxInterval = 2 ∧
    sink.cfg.ctxSize = 72 ∧ sink.txAccCount = 0 ∧ sink.txPacketCount = 0 ∧ sink.txSeq = 0 ∧
    sink.txStatic.toNat % 2 ^ 20 = 0 ∧ sink.cfg.ctxStatic.toNat / 2 ^ 28 ≠ 1 ∧ sink.txStatic.toNat / 2 ^ 28 = 1 ∧
    sink.cfg.ctxStatic.toNat % 2 ^ 20 = 0 ∧ sink.advance = some ⟨100, 0⟩ ∧
    ({ sink with tsPsr := sink.tsPsr + 1 } : State).advance = some ⟨100, 4000000⟩ ∧
    sink.sendDraws = true :: true :: true :: [] ∧ p1Batch.length = 8 ∧ (∀ p ∈ p1Batch, sink.laneOk p = true) := by
  decide +kernel

theorem test_witness_TxSetStaticReplacesThePattern :
    sink.phase = .run ∧ sink.cfg.ctrl.getLsbD 0 = false ∧ (withPort sink [num 0xFFF00000]).port = [num 0xFFF00000] ∧
    (0xFFF00000 : Word32).toNat % 2 ^ 20 = 0 ∧ (0x18F00001 : Word32).toNat % 2 ^ 20 ≠ 0 := by decide +kernel

theorem test_witness_AcceptedDataUnit :
    (source 1).phase = .run ∧ (source 1).cfg.ctrl.getLsbD 0 = true ∧
    (withPort (source 1) [.bytes (dataUnit 0), num 2]).port = [.bytes (dataUnit 0), num 2] ∧
    unitMismatch (source 1) (dataUnit 0) = none ∧ unitKind (dataUnit 0) = 1 ∧
    unitMismatch (source 1) ((dataUnit 0).take 20) = none ∧ unitKind ((dataUnit 0).take 20) = 1 ∧
    (source 1).cfg.ctrl.getLsbD 1 = false ∧ (dataUnit 0).take (source 1).rxBufBytes = dataUnit 0 := by decide +kernel

/-- CTX-1 with its depth of 16, and CTX-2 made one of 16 bits. -/
theorem test_witness_AcceptedContextUnit :
    (source 1).phase = .run ∧ (source 1).cfg.ctrl.getLsbD 0 = true ∧ unitMismatch (source 1) ctx1 = none ∧
    unitKind ctx1 ≠ 1 ∧ unitMismatch (source 1) (beWrite ctx2 103 1 15) = none ∧
    unitKind (beWrite ctx2 103 1 15) ≠ 1 := by decide +kernel

/-- One unit for each mismatch, and a configuration for each policy. -/
theorem test_witness_MismatchedUnitFollowsThePolicy :
    (source 0x21).phase = .run ∧ (source 0x21).cfg.ctrl.getLsbD 0 = true ∧
    unitMismatch (source 0x21) ((dataUnit 0).take 3) = some .dataLength ∧
    unitMismatch (source 0x21) ((dataUnit 0).take 19) = some .dataLength ∧
    unitMismatch (source 0x21) (beWrite (dataUnit 0) 4 4 0x0BADBEEF) = some .streamId ∧
    unitMismatch (source 0x21) (ctx1.take 71) = some .ctxLength ∧
    unitMismatch (source 0x21) ctx2 = some .ctxBitDepth ∧ (source 0x21).cfg.ctrl.toNat / 8 % 4 = 0 ∧
    (source 0x29).cfg.ctrl.toNat / 8 % 4 = 1 ∧ (source 0x31).cfg.ctrl.toNat / 8 % 4 = 2 ∧
    (source 0x39).cfg.ctrl.toNat / 8 % 4 = 3 := by decide +kernel

theorem test_witness_SkippedSequenceRaisesOneGap :
    unitMismatch (source 1) (dataUnit 4) = none ∧ unitMismatch (source 1) (dataUnit 5) = none ∧
    unitKind (dataUnit 4) = 1 ∧ unitKind (dataUnit 5) = 1 ∧
    ({ source 1 with rxLastSeq := ⟨true, 2⟩ } : State).rxLastSeq = ⟨true, 2⟩ ∧
    beRead (dataUnit 4) 0 4 / 2 ^ 16 % 16 = 4 ∧ beRead (dataUnit 5) 0 4 / 2 ^ 16 % 16 = 5 ∧
    (source 1).rxLastSeq.valid = false ∧
    exec .rxUnit (withPort (source 1) [.bytes (dataUnit 4), num 2])
      = .next (nextOf (exec .rxUnit (withPort (source 1) [.bytes (dataUnit 4), num 2]))) := by
  refine ⟨?_, ?_, ?_, ?_, ?_, ?_, ?_, ?_, rfl⟩ <;> decide +kernel

theorem test_witness_SentSamplesAreReceived :
    (source 1).phase = .run ∧ (source 1).cfg.ctrl.getLsbD 0 = true ∧ (source 1).cfg.bitDepth = 16 ∧
    ((dataUnit 0).take 20).length = 20 ∧ unitKind ((dataUnit 0).take 20) = 1 ∧
    (∀ p ∈ [((-32768 : Int), (32767 : Int)), (0, -1)], (source 1).laneOk p = true) ∧
    unitMismatch (source 1) ((dataUnit 0).take 20 ++
      [((-32768 : Int), (32767 : Int)), (0, -1)].flatMap (sampleBytes (source 1).cfg.bitDepth.toNat)) = none ∧
    20 + 4 * 1 + 4 ≤ (dataUnit 0).length ∧ 20 + 2 * 3 + 2 ≤ (dataUnit 0).length := by
  decide +kernel

/-- I before Q, each big-endian (R135): the bytes of (1, -2), and the samples of a unit of program P2. -/
theorem test_lanes :
    sampleBytes 16 (1, -2) = hx [0, 1, 0xff, 0xfe] ∧ sampleBytes 8 (1, -2) = hx [1, 0xfe] ∧
    sampleAt 16 (dataUnit 0) 0 = (0, 1) ∧ sampleAt 8 (dataUnit 0) 3 = (-1, -1) := by decide +kernel

theorem test_witness_TcpConnectionCommands :
    (source 3).phase = .run ∧ (source 3).cfg.ctrl.getLsbD 0 = true ∧ (source 3).cfg.ctrl.getLsbD 1 = true ∧
    (source 3).tcpPhase = .disconnected ∧ (tcpSource [] []).tcpPhase ≠ .disconnected ∧
    (withPort (source 3) [.bytes []]).port = [.bytes []] := by decide +kernel

/-- No client; 0 and 3 bytes held; 4 and 27 bytes of a 28-byte unit held; a body one byte short. -/
theorem test_witness_PollWithoutAWholeUnitKeepsTheBytes :
    (tcpSource [] []).phase = .run ∧ (tcpSource [] []).cfg.ctrl.getLsbD 0 = true ∧
    (tcpSource [] []).cfg.ctrl.getLsbD 1 = true ∧ (withPort (tcpSource [] []) [num 2]).port = [num 2] ∧
    (source 3).tcpPhase = .disconnected ∧ (tcpSource [] []).tcpPhase = .header ∧
    (hx [1, 2] ++ hx [3]).length < 4 ∧ ((dataUnit 0).take 3).length < 4 ∧
    4 ≤ ((dataUnit 0).take 4).length ∧ ((dataUnit 0).take 27).length < 4 * beRead ((dataUnit 0).take 27) 2 2 ∧
    ({ tcpSource ((dataUnit 0).take 27) [] with tcpPhase := .body, tcpNeed := 28 } : State).tcpPhase = .body ∧
    ((dataUnit 0).take 27 ++ ([] : List Byte)).length < (28 : Word32).toNat := by decide +kernel

theorem test_witness_PollDecodesAFramedDataUnit :
    (tcpSource [] (dataUnit 0)).phase = .run ∧ (tcpSource [] (dataUnit 0)).tcpPhase = .header ∧
    (tcpSource [] (dataUnit 0)).tcpBuf.length < 4 ∧ 4 ≤ (dataUnit 0).length ∧ beRead (dataUnit 0) 2 2 ≠ 0 ∧
    4 * beRead (dataUnit 0) 2 2 ≤ (dataUnit 0).length ∧
    unitMismatch (tcpSource [] (dataUnit 0)) ((dataUnit 0).take (4 * beRead (dataUnit 0) 2 2)) = none ∧
    unitKind ((dataUnit 0).take (4 * beRead (dataUnit 0) 2 2)) = 1 := by decide +kernel

/-- A data unit of another stream, forwarded under warn-and-forward. -/
def forwarded : List Byte := beWrite (dataUnit 0) 4 4 0x0BADBEEF

/-- A context unit, answered with no data; a 4-byte unit of kind 1, fatal under policy fail; a forwarded data unit. -/
theorem test_witness_PollGoesOnPastUnitsWithoutData :
    4 ≤ (ctx1 ++ dataUnit 0).length ∧ beRead (ctx1 ++ dataUnit 0) 2 2 = 18 ∧
    (nextOf (exec .rxUnit (withPort (tcpSource [] (dataUnit 0)) [.bytes ctx1, num 2]))).response
      = some (.ok (.received none)) ∧
    beRead (hx [0x18, 0, 0, 1]) 2 2 = 1 ∧
    (nextOf (exec .rxUnit (withPort (tcpSource [] []) [.bytes (hx [0x18, 0, 0, 1]), num 2]))).response
      = some (.fault (.proto .dataLength)) ∧
    4 * beRead forwarded 2 2 ≤ forwarded.length ∧
    unitMismatch { source 0x33 with tcpPhase := .header } forwarded = some .streamId ∧
    (nextOf (exec .rxUnit (withPort { source 0x33 with tcpPhase := .header } [.bytes forwarded, num 2]))).response
      = some (.ok (.received (some ⟨unitSamples, 7, 0⟩))) := by decide +kernel

theorem test_witness_ZeroWordCountDisconnects :
    (tcpSource (hx [0x18]) (hx [0, 0, 0, 7])).tcpBuf.length < 4 ∧ 4 ≤ (hx [0x18] ++ hx [0, 0, 0, 7]).length ∧
    beRead (hx [0x18] ++ hx [0, 0, 0, 7]) 2 2 = 0 := by decide +kernel

/-- Two chunks; and a poll between the two parts of P3's data packet. -/
theorem test_witness_TcpStreamSplitIsInvisible :
    (tcpSource [] []).tcpPhase ≠ .disconnected ∧
    (nextOf (exec .tcpRxBytes (withPort (tcpSource [] []) [.bytes (hx [1])]))).response = some (.ok .unit) ∧
    (nextOf (exec .tcpRxPoll (withPort (tcpSource [] ((dataUnit 0).take 10)) [num 2]))).response = some .noPacket ∧
    (nextOf (exec .tcpRxPoll (withPort (tcpSource [] ((dataUnit 0).take 10)) [num 2]))).tcpPhase = .body ∧
    exec .tcpRxPoll (withPort (tcpSource [] ((dataUnit 0).take 10)) [num 2])
      = .next (nextOf (exec .tcpRxPoll (withPort (tcpSource [] ((dataUnit 0).take 10)) [num 2]))) := by
  refine ⟨?_, ?_, ?_, ?_, rfl⟩ <;> decide +kernel

theorem test_witness_UdpIsRxUnitOfTheCutDatagram :
    (source 1).phase = .run ∧ (source 1).cfg.ctrl.getLsbD 0 = true ∧ (source 1).cfg.ctrl.getLsbD 1 = false ∧
    (withPort (source 1) [.bytes (dataUnit 0), num 2]).port = [.bytes (dataUnit 0), num 2] := by decide +kernel

theorem test_witness_LinkCommandsWriteTheLink :
    sinkTcp.phase = .run ∧ sinkTcp.cfg.ctrl.getLsbD 0 = false ∧ sinkTcp.cfg.ctrl.getLsbD 1 = true := by decide +kernel

theorem test_witness_TransportFailIsFatal : idle.phase ≠ .fault ∧ sink.phase ≠ .fault := by decide +kernel

end Sys2Proof.Tests
end

/-! SUPPORT. The proofs of the statements of 10_state.md: the reset table (R89) and STATUS (R63). -/

namespace Sys2Proof.Machine

open Sys2Proof

/-! ### Reset -/

/-- Settles O10: the two structures of reset values are the table of R89, element by element. -/
theorem resetValuesAreThoseOfTheTable : Obligations.ResetValuesAreThoseOfTheTable := by
  simp only [Obligations.ResetValuesAreThoseOfTheTable, State.reset, CfgRegs.reset, and_self]

/-! ### The register space -/

/-- The address map finds every register at its base address, so no two registers share one (R105). -/
@[simp] theorem regAt_addr (r : Reg) : regAt r.addr = some r := by
  cases r with
  | cfg r => cases r <;> rfl
  | status r => cases r <;> rfl

theorem exec_regRead_of_regAt {a : RegAddr} {r : Reg} (h : regAt a = some r) (s : State) :
    exec (.regRead a) s = .next (s.answered (.ok (.u64 (readReg s r))) []) := by
  simp only [exec, execRegRead, h, admit_of_check (check_always s), State.ok, State.answered_eq_reply]

/-- REG_WRITE has no status register to write (R62, R360). -/
theorem exec_regWrite_of_status {a : RegAddr} {r : StatusReg} (h : regAt a = some (.status r)) {s : State}
    (hp : s.phase = .config) : exec (.regWrite a) s = .next (s.answered (.refused .illegalCommand) []) := by
  simp only [exec, execRegWrite, h, admit_of_check (check_configOnly hp), State.refuse, State.answered_eq_reply]

/-! ### STATUS -/

/-- Appended words do not overlap: the number is the lower one plus the upper one at its weight. -/
theorem toNat_append_eq_add {m n : Nat} (x : BitVec m) (y : BitVec n) :
    (x ++ y).toNat = x.toNat * 2 ^ n + y.toNat := by
  rw [BitVec.toNat_append, ← Nat.shiftLeft_add_eq_or_of_lt y.isLt, Nat.shiftLeft_eq]

theorem getLsbD_of_toNat {w i : Nat} {x : BitVec w} {b : Bool} (h : x.toNat / 2 ^ i % 2 = b.toNat) :
    x.getLsbD i = b := by
  rw [← BitVec.testBit_toNat, Nat.testBit_eq_decide_div_mod_eq, h]
  cases b <;> rfl

/-- STATUS is the sum of its fields, each at the weight of its lowest bit (R63). -/
theorem statusWord_toNat (s : State) :
    (statusWord s).toNat = 128 * s.rxLastStatic.valid.toNat + 64 * s.rxLastSeq.valid.toNat
      + 32 * s.pending.isSome.toNat + 8 * s.tcpPhase.bits.toNat + 4 * s.linkUp.toNat + s.phase.bits.toNat := by
  simp only [statusWord, toNat_append_eq_add, BitVec.toNat_ofBool, BitVec.ofNat_eq_ofNat, BitVec.toNat_zero]
  omega

/-- Every field of STATUS stands at its place, and bits 31:8 are 0 (R63). -/
theorem statusWord_fields (s : State) :
    (statusWord s).toNat % 4 = s.phase.bits.toNat ∧ (statusWord s).toNat / 2 ^ 2 % 2 = s.linkUp.toNat ∧
    (statusWord s).toNat / 8 % 4 = s.tcpPhase.bits.toNat ∧
    (statusWord s).toNat / 2 ^ 5 % 2 = s.pending.isSome.toNat ∧
    (statusWord s).toNat / 2 ^ 6 % 2 = s.rxLastSeq.valid.toNat ∧
    (statusWord s).toNat / 2 ^ 7 % 2 = s.rxLastStatic.valid.toNat ∧ (statusWord s).toNat < 256 := by
  have hsum := statusWord_toNat s
  have hphase := s.phase.bits.isLt
  have htcp := s.tcpPhase.bits.isLt
  have hlink := s.linkUp.toNat_lt
  have hpending := s.pending.isSome.toNat_lt
  have hseq := s.rxLastSeq.valid.toNat_lt
  have hstatic := s.rxLastStatic.valid.toNat_lt
  omega

theorem Phase.bits_toNat (p : Phase) :
    p.bits.toNat = match p with | .config => 0 | .run => 1 | .fault => 2 := by
  cases p <;> rfl

theorem TcpPhase.bits_toNat (p : TcpPhase) :
    p.bits.toNat = match p with | .disconnected => 0 | .header => 1 | .body => 2 := by
  cases p <;> rfl

/-- Settles O16: the fields are read off the word, and 0x100 is the address of the status register STATUS. -/
theorem statusWordShowsItsFields : Obligations.StatusWordShowsItsFields := by
  have hstatus : regAt 0x100 = some (.status .status) := regAt_addr (.status .status)
  refine ⟨fun s => ?_, rfl⟩
  obtain ⟨hphase, hlink, htcp, hpending, hseq, hstatic, hreserved⟩ := statusWord_fields s
  exact ⟨hphase.trans s.phase.bits_toNat, getLsbD_of_toNat hlink, htcp.trans s.tcpPhase.bits_toNat,
    getLsbD_of_toNat hpending, getLsbD_of_toNat hseq, getLsbD_of_toNat hstatic, hreserved,
    exec_regRead_of_regAt hstatus s, exec_regWrite_of_status hstatus⟩

end Sys2Proof.Machine

/-! SUPPORT. The proofs of the statements of 30_encoding.md: which words are commands (R148), which phases, direction
and transport admit a command (R149), and the one response that ends it (R150). -/

namespace Sys2Proof.Machine

open Sys2Proof

/-! ### Words of a format -/

/-- A word is its OP above its low 24 bits. -/
theorem word_toNat (w : Word32) : w.toNat = (opField w).toNat * 2 ^ 24 + (w.extractLsb' 0 24).toNat := by
  have hw := w.isLt
  simp only [opField, BitVec.extractLsb'_toNat, Nat.shiftRight_eq_div_pow]
  omega

/-- The mask of format CR keeps OP and the bits 23:12 that the format gives as 0. -/
theorem and_crMask_eq_iff {m : Word32} (hm : m.extractLsb' 0 24 = 0) (w : Word32) :
    w &&& 0xFFFFF000 = m ↔ opField w = opField m ∧ w.extractLsb' 12 12 = 0 := by
  have hw := w.isLt
  have hlow : (m.extractLsb' 0 24).toNat = 0 := by rw [hm]; rfl
  have hmask : (w &&& 0xFFFFF000).toNat = w.toNat / 2 ^ 12 * 2 ^ 12 := by
    rw [show (0xFFFFF000 : Word32) = BitVec.allOnes 32 <<< 12 from rfl, ← BitVec.shiftLeft_ushiftRight,
      BitVec.toNat_shiftLeft, BitVec.toNat_ushiftRight, Nat.shiftLeft_eq, Nat.shiftRight_eq_div_pow]
    omega
  rw [← BitVec.toNat_inj, ← BitVec.toNat_inj, ← BitVec.toNat_inj, hmask, word_toNat m, hlow]
  simp only [opField, BitVec.extractLsb'_toNat, Nat.shiftRight_eq_div_pow, BitVec.ofNat_eq_ofNat, BitVec.toNat_zero]
  omega

theorem formatC0_ok {w : Word32} {i j : Instr} (h : formatC0 w j = .ok i) : w.extractLsb' 0 24 = 0 := by
  unfold formatC0 at h
  split at h
  · assumption
  · cases h

theorem formatCR_ok {w : Word32} {f : RegAddr → Instr} {i : Instr} (h : formatCR w f = .ok i) :
    w.extractLsb' 12 12 = 0 := by
  unfold formatCR at h
  split at h
  · assumption
  · cases h

theorem formatCP_ok {w : Word32} {i j k : Instr} (h : formatCP w j k = .ok i) : w.extractLsb' 1 23 = 0 := by
  unfold formatCP at h
  split at h
  · assumption
  · cases h

/-! ### The opcode table -/

/-- A row that masks nothing away is met by its own word. -/
theorem isCommandWord_of_row {w : Word32} (hrow : (w, 0xFFFFFFFF) ∈ opcodeRows) : isCommandWord w :=
  ⟨_, hrow, BitVec.and_allOnes⟩

theorem isCommandWord_of_formatC0 {w : Word32} {op : Nat} {i j : Instr} (hop : (opField w).toNat = op)
    (h : formatC0 w j = .ok i) (hrow : (BitVec.ofNat 32 (op * 2 ^ 24), 0xFFFFFFFF) ∈ opcodeRows) :
    isCommandWord w := by
  have hw : w.toNat = op * 2 ^ 24 := by
    rw [word_toNat, formatC0_ok h, hop, BitVec.ofNat_eq_ofNat, BitVec.toNat_zero, Nat.add_zero]
  rw [← hw, BitVec.ofNat_toNat, BitVec.setWidth_eq] at hrow
  exact isCommandWord_of_row hrow

theorem isCommandWord_of_formatCR {w m : Word32} {i : Instr} {f : RegAddr → Instr}
    (hop : (opField w).toNat = (opField m).toNat) (h : formatCR w f = .ok i) (hm : m.extractLsb' 0 24 = 0)
    (hrow : (m, 0xFFFFF000) ∈ opcodeRows) : isCommandWord w :=
  ⟨_, hrow, (and_crMask_eq_iff hm w).mpr ⟨BitVec.eq_of_toNat_eq hop, formatCR_ok h⟩⟩

/-- The one OP of format CP has a row for each value of P. -/
theorem isCommandWord_of_formatCP {w : Word32} {i j k : Instr} (hop : (opField w).toNat = 0x30)
    (h : formatCP w j k = .ok i) : isCommandWord w := by
  have hlow := congrArg BitVec.toNat (formatCP_ok h)
  have hw : w = 0x30000000 ∨ w = 0x30000001 := by
    have hlt := w.isLt
    simp only [opField, BitVec.extractLsb'_toNat, Nat.shiftRight_eq_div_pow, BitVec.ofNat_eq_ofNat,
      ← BitVec.toNat_inj, BitVec.toNat_ofNat] at hop hlow ⊢
    omega
  rcases hw with rfl | rfl
  · exact isCommandWord_of_row (by decide)
  · exact isCommandWord_of_row (by decide)

/-- Every row of the table is one command word, or the words of REG_WRITE or REG_READ. -/
theorem opcodeRows_cases : ∀ row ∈ opcodeRows,
    row.2 = 0xFFFFFFFF ∧ (decode row.1).isOk ∨
      row = (0x02000000, 0xFFFFF000) ∨ row = (0x03000000, 0xFFFFF000) := by
  rw [← List.forall_iff_forall_mem]
  decide +kernel

theorem decode_isOk_of_formatCR {w : Word32} (hop : opField w = 0x02 ∨ opField w = 0x03)
    (hlow : w.extractLsb' 12 12 = 0) : (decode w).isOk := by
  rcases hop with hop | hop
  · simp [decode, hop, formatCR, hlow, Except.isOk, Except.toBool]
  · simp [decode, hop, formatCR, hlow, Except.isOk, Except.toBool]

/-- The decoder accepts the words of the opcode table (R147), and no other (R148). -/
theorem decode_isOk_iff (w : Word32) : (decode w).isOk ↔ isCommandWord w := by
  constructor
  · intro hok
    cases h : decode w with
    | error e => rw [h] at hok; cases hok
    | ok i =>
      unfold decode at h
      split at h
      case h_2 hop => exact isCommandWord_of_formatCR (m := 0x02000000) hop h (by decide) (by decide)
      case h_3 hop => exact isCommandWord_of_formatCR (m := 0x03000000) hop h (by decide) (by decide)
      case h_11 hop => exact isCommandWord_of_formatCP hop h
      case h_28 => cases h
      all_goals exact isCommandWord_of_formatC0 ‹_› h (by decide)
  · rintro ⟨row, hrow, hw⟩
    rcases opcodeRows_cases row hrow with ⟨hmask, hok⟩ | rfl | rfl
    · rw [hmask] at hw
      rwa [BitVec.and_allOnes.symm.trans hw]
    · obtain ⟨hop, hlow⟩ := (and_crMask_eq_iff (by decide) w).mp hw
      exact decode_isOk_of_formatCR (.inl hop) hlow
    · obtain ⟨hop, hlow⟩ := (and_crMask_eq_iff (by decide) w).mp hw
      exact decode_isOk_of_formatCR (.inr hop) hlow

theorem step_of_decode_error {s : State} {c : Command} {rest : List Command} {e : DecodeReject}
    (hq : s.cmdq = c :: rest) (h : decode c.word = .error e) :
    step s = .next ((s.take c rest).refuse .illegalCommand) := by
  simp only [step, hq, h]

/-- Settles O2: the decoder accepts exactly the words of the table, and a step refuses what it does not accept. -/
theorem reservedWordsAreRefused : Obligations.ReservedWordsAreRefused := by
  intro s c rest hq
  rw [← decode_isOk_iff]
  cases h : decode c.word with
  | ok i => exact ⟨fun _ => ⟨i, rfl⟩, fun hno => absurd rfl hno⟩
  | error e => exact ⟨fun hok => (nomatch hok), fun _ => step_of_decode_error hq h⟩

/-! ### Admission -/

/-- The row of R149 a command stands in, as its arm of `exec` names it. -/
def Instr.admission : Instr → Admission
  | .softReset | .regRead _ => .always
  | .regWrite _ | .start => .configOnly
  | .fxpDecode | .fxpEncode | .hdrEncode | .hdrDecode | .sidEncode | .sidDecode | .ctxEncodeAlt | .ctxEncodeStd
  | .ctxDecode | .transportFail => .beforeFault
  | .tsAdvance | .tsReset | .tsTick => .running
  | .txPush | .txSetTime | .txSetStatic => .sink
  | .txLinkDown | .txLinkUp => .sinkTcp
  | .rxUnit => .source
  | .tcpRxAccept | .tcpRxBytes | .tcpRxPoll | .tcpRxDisconnect => .sourceTcp
  | .udpRxDatagram => .sourceUdp

/-- The phases of a command's row are those of the table of R149. -/
theorem phaseOk_admission (i : Instr) (p : Phase) :
    (Instr.admission i).phaseOk p = decide (p ∈ Instr.phases i) := by
  cases i <;> cases p <;> rfl

/-- The directions and transports of a command's row are those of the table of R149. -/
theorem directionOk_admission (i : Instr) (s : State) :
    (Instr.admission i).directionOk s = Instr.fits i (s.cfg.ctrl.getLsbD 0) (s.cfg.ctrl.getLsbD 1) := by
  cases i <;> rfl

/-- Only the row that admits every phase admits FAULT. -/
theorem eq_always_of_phaseOk_fault {a : Admission} (h : a.phaseOk .fault = true) : a = .always := by
  cases a with
  | always => rfl
  | configOnly | beforeFault | running | sink | sinkTcp | source | sourceTcp | sourceUdp => cases h

theorem check_of_fault {a : Admission} {s : State} (hs : s.phase = .fault) (h : a.phaseOk .fault = false) :
    a.check s = some .inFault := by
  refine check_fault ?_ hs
  rintro rfl
  cases h

theorem check_of_phase {a : Admission} {s : State} (hs : s.phase ≠ .fault) (h : a.phaseOk s.phase = false) :
    a.check s = some .wrongPhase := by
  have ha : a ≠ .always := by rintro rfl; cases h
  simp [Admission.check, ha, hs, h]

theorem check_of_direction {a : Admission} {s : State} (hp : a.phaseOk s.phase = true)
    (h : a.directionOk s = false) : a.check s = some .wrongDirection := by
  have ha : a ≠ .always := by rintro rfl; cases h
  have hs : s.phase ≠ .fault := fun hf => ha (eq_always_of_phaseOk_fault (hf ▸ hp))
  simp [Admission.check, ha, hs, hp, h]

theorem check_of_admitted {a : Admission} {s : State} (hp : a.phaseOk s.phase = true)
    (hd : a.directionOk s = true) : a.check s = none := by
  by_cases ha : a = .always
  · rw [ha, check_always]
  · have hs : s.phase ≠ .fault := fun hf => ha (eq_always_of_phaseOk_fault (hf ▸ hp))
    simp [Admission.check, ha, hs, hp, hd]

/-! ### How a command ends -/

/-- The codes with which a command that its row admits may still be refused, by its operands or by its own checks. -/
def Instr.ownRefusals : Instr → List RefusalCode
  | .regWrite _ => [.badAddress, .illegalCommand, .badOperand]
  | .regRead _ => [.badAddress]
  | .fxpEncode => [.badOperand, .fxpRange]
  | .sidDecode | .ctxDecode => [.badOperand, .badLength]
  | .tsAdvance => [.badConfig]
  | .tcpRxAccept => [.wrongPhase]
  | .tcpRxBytes => [.badOperand, .wrongPhase]
  | .fxpDecode | .hdrEncode | .hdrDecode | .sidEncode | .ctxEncodeAlt | .ctxEncodeStd | .tsReset | .txPush
  | .txSetTime | .txSetStatic | .rxUnit | .tcpRxPoll | .udpRxDatagram => [.badOperand]
  | .softReset | .start | .tsTick | .tcpRxDisconnect | .txLinkDown | .txLinkUp | .transportFail => []

/-- How a command performed in `s` may leave the engine (R150): with a result, without a packet, refused by one of its
codes with nothing done, or in a fatal error. -/
inductive Performed (codes : List RefusalCode) (s : State) : State → Prop
  /-- OK, with what the command has done. -/
  | ok (t : State) (v : Values) (evs : List Event) : Performed codes s (t.reply (.ok v) evs)
  /-- NONE, with the bytes the poll has moved. -/
  | noPacket (t : State) (evs : List Event) : Performed codes s (t.reply .noPacket evs)
  /-- REFUSED, with nothing done. -/
  | refused {c : RefusalCode} (h : c ∈ codes) : Performed codes s (s.refuse c)
  /-- FAULT, with what the command had done before it (R384). -/
  | fatal (t : State) (c : FatalCode) (evs : List Event) : Performed codes s (t.raiseFatal c evs)

section
variable {codes : List RefusalCode} {s : State}

theorem Performed.ite {p : Prop} [Decidable p] {t u : State} (ht : Performed codes s t) (hu : Performed codes s u) :
    Performed codes s (if p then t else u) := by
  split
  · exact ht
  · exact hu

theorem Performed.withOperands {α : Type} (o : Option α) {k : α → State} (h : .badOperand ∈ codes)
    (hk : ∀ a, Performed codes s (k a)) : Performed codes s (withOperands o s k) := by
  cases o with
  | none => exact .refused h
  | some a => exact hk a

theorem Performed.answerFxp (o : Option Word64) (h : .fxpRange ∈ codes) : Performed codes s (s.answerFxp o) := by
  cases o with
  | none => exact .refused h
  | some bits => exact .ok _ _ _

theorem Performed.ctxEncode (p : Profile) (h : .badOperand ∈ codes) : Performed codes s (s.ctxEncode p) := by
  unfold State.ctxEncode
  split
  · exact .ok _ _ _
  · exact .refused h

theorem Performed.answerTime (o : Option Timestamp) : Performed codes s (s.answerTime o) := by
  cases o with
  | none => exact .fatal _ _ _
  | some t => exact .ok _ _ _

theorem Performed.resetTime (full : Word32) (frac : Word64) (h : .badOperand ∈ codes) :
    Performed codes s (s.resetTime full frac) :=
  .ite (.refused h) (.ok _ _ _)

/-- TX_PUSH ends its loop with its counts or in a fatal error. -/
theorem Performed.pushLoop (batch : List Sample) (consumed packets : Nat) (u : State) :
    Performed codes s (pushLoop batch consumed packets u) := by
  induction batch generalizing consumed packets u with
  | nil => exact .ok _ _ _
  | cons p rest ih =>
    by_cases hfull : u.txAccCount + 1 = u.cfg.spp
    · rcases he : emitPackets (u.takeSample p) with ⟨_ | k, v⟩
      · rw [pushLoop_failed hfull he]
        exact .fatal _ _ _
      · rw [pushLoop_sent hfull he]
        exact ih _ _ _
    · rw [pushLoop_take hfull]
      exact ih _ _ _

theorem Performed.respond (r : RxStep) : Performed codes s r.respond := by
  unfold RxStep.respond
  split
  · exact .fatal _ _ _
  · exact .ok _ _ _

/-- A poll ends without a packet, with a data unit, or in a fatal error. -/
theorem Performed.pollLoop (fuel req : Nat) (evs : List Event) (u : State) :
    Performed codes s (pollLoop fuel req evs u) := by
  induction fuel generalizing evs u with
  | zero => exact .noPacket _ _
  | succ fuel ih =>
    rw [Sys2Proof.Machine.pollLoop]
    cases frameUnit u with
    | short t => exact .noPacket _ _
    | badCount t => exact .noPacket _ _
    | whole t unit =>
      dsimp only
      split
      · exact .fatal _ _ _
      · exact .ok _ _ _
      · exact ih _ _

theorem Performed.tcpPoll (req : Nat) : Performed codes s (s.tcpPoll req) :=
  .ite (.noPacket _ _) (.pollLoop _ _ _ _)

end

/-- Every command is either refused by its row of R149 or performed, and then ends in one of the ways of `Performed`. -/
theorem exec_eq_admitted (i : Instr) (s : State) :
    ∃ t, exec i s = .next (whenAdmitted (Instr.admission i) s t) ∧ Performed (Instr.ownRefusals i) s t := by
  cases i with
  | softReset => exact ⟨_, rfl, .ok _ _ _⟩
  | regWrite addr =>
    refine ⟨_, rfl, ?_⟩
    split
    · exact .refused (by simp [Instr.ownRefusals])
    · exact .refused (by simp [Instr.ownRefusals])
    · have hbad : .badOperand ∈ Instr.ownRefusals (.regWrite addr) := by simp [Instr.ownRefusals]
      exact .withOperands _ hbad fun _ => .ite (.ok _ _ _) (.refused hbad)
  | regRead addr =>
    refine ⟨_, rfl, ?_⟩
    split
    · exact .refused (by simp [Instr.ownRefusals])
    · exact .ok _ _ _
  | start =>
    refine ⟨_, rfl, ?_⟩
    split
    · exact .fatal _ _ _
    · exact .ok _ _ _
  | fxpDecode => exact ⟨_, rfl, .withOperands _ (by decide) fun _ => .ok _ _ _⟩
  | fxpEncode => exact ⟨_, rfl, .withOperands _ (by decide) fun _ => .answerFxp _ (by decide)⟩
  | hdrEncode =>
    exact ⟨_, rfl, .withOperands _ (by decide) fun _ => .ite (.refused (by decide)) (.ok _ _ _)⟩
  | hdrDecode => exact ⟨_, rfl, .withOperands _ (by decide) fun _ => .ok _ _ _⟩
  | sidEncode => exact ⟨_, rfl, .withOperands _ (by decide) fun _ => .ok _ _ _⟩
  | sidDecode =>
    exact ⟨_, rfl, .withOperands _ (by decide) fun _ => .ite (.refused (by decide)) (.ok _ _ _)⟩
  | ctxEncodeAlt => exact ⟨_, rfl, .ctxEncode _ (by decide)⟩
  | ctxEncodeStd => exact ⟨_, rfl, .ctxEncode _ (by decide)⟩
  | ctxDecode =>
    refine ⟨_, rfl, .withOperands _ (by decide) fun _ => ?_⟩
    split
    · exact .ok _ _ _
    · exact .refused (by decide)
  | tsAdvance => exact ⟨_, rfl, .ite (.refused (by decide)) (.answerTime _)⟩
  | tsReset => exact ⟨_, rfl, .withOperands _ (by decide) fun _ => .resetTime _ _ (by decide)⟩
  | tsTick => exact ⟨_, rfl, .ok _ _ _⟩
  | txPush =>
    exact ⟨_, rfl, .withOperands _ (by decide) fun _ =>
      .ite (.refused (by decide)) (.ite (.ok _ _ _) (.pushLoop _ _ _ _))⟩
  | txSetTime => exact ⟨_, rfl, .withOperands _ (by decide) fun _ => .resetTime _ _ (by decide)⟩
  | txSetStatic =>
    exact ⟨_, rfl, .withOperands _ (by decide) fun _ => .ite (.refused (by decide)) (.ok _ _ _)⟩
  | rxUnit => exact ⟨_, rfl, .withOperands _ (by decide) fun _ => .respond _⟩
  | tcpRxAccept => exact ⟨_, rfl, .ite (.refused (by decide)) (.ok _ _ _)⟩
  | tcpRxBytes =>
    exact ⟨_, rfl, .withOperands _ (by decide) fun _ => .ite (.refused (by decide)) (.ok _ _ _)⟩
  | tcpRxPoll => exact ⟨_, rfl, .withOperands _ (by decide) fun _ => .tcpPoll _⟩
  | tcpRxDisconnect => exact ⟨_, rfl, .ok _ _ _⟩
  | udpRxDatagram => exact ⟨_, rfl, .withOperands _ (by decide) fun _ => .respond _⟩
  | txLinkDown => exact ⟨_, rfl, .ok _ _ _⟩
  | txLinkUp => exact ⟨_, rfl, .ok _ _ _⟩
  | transportFail => exact ⟨_, rfl, .fatal _ _ _⟩

theorem exec_of_refusal {i : Instr} {s : State} {c : RefusalCode} (h : (Instr.admission i).check s = some c) :
    exec i s = .next (s.answered (.refused c) []) := by
  obtain ⟨t, he, -⟩ := exec_eq_admitted i s
  rw [he, admit_of_refusal h]
  rfl

theorem exec_of_admitted {i : Instr} {s : State} (h : (Instr.admission i).check s = none) :
    ∃ t, exec i s = .next t ∧ Performed (Instr.ownRefusals i) s t := by
  obtain ⟨t, he, ht⟩ := exec_eq_admitted i s
  exact ⟨t, he.trans (congrArg _ (admit_of_check h t)), ht⟩

/-- A refusal leaves everything but the answer, a fatal error leaves FAULT and its code (R150). -/
theorem Performed.response {codes : List RefusalCode} {s t : State} (h : Performed codes s t) :
    ∃ r, t.response = some r ∧ (∀ c, r = .refused c → c ∈ codes ∧ t = s.answered r []) ∧
      (∀ c, r = .fault c → t.phase = .fault ∧ t.errCode = c.code) := by
  cases h with
  | ok t v evs => exact ⟨_, rfl, nofun, nofun⟩
  | noPacket t evs => exact ⟨_, rfl, nofun, nofun⟩
  | refused hc => exact ⟨_, rfl, by rintro _ ⟨⟩; exact ⟨hc, rfl⟩, nofun⟩
  | fatal t c evs => exact ⟨_, rfl, nofun, by rintro _ ⟨⟩; exact ⟨rfl, rfl⟩⟩

theorem Performed.code_mem {codes : List RefusalCode} {s t : State} {c : RefusalCode} (h : Performed codes s t)
    (hr : t.response = some (.refused c)) : c ∈ codes := by
  obtain ⟨r, hr', hrefused, -⟩ := h.response
  exact (hrefused c (Option.some.inj (hr'.symm.trans hr))).1

/-- Of the codes of R149 only WRONG_PHASE is also a command's own, for TCP_RX_ACCEPT and TCP_RX_BYTES (R330, R332). -/
theorem ownRefusals_admission_codes (i : Instr) :
    .inFault ∉ Instr.ownRefusals i ∧ .wrongDirection ∉ Instr.ownRefusals i ∧
      (.wrongPhase ∈ Instr.ownRefusals i → i = .tcpRxAccept ∨ i = .tcpRxBytes) := by
  cases i <;> simp [Instr.ownRefusals]

/-- Settles O5: a command its row refuses is answered at once, and one that is performed ends with its response. -/
theorem everyCommandEndsWithOneResponse : Obligations.EveryCommandEndsWithOneResponse := by
  intro i s
  cases hcheck : (Instr.admission i).check s with
  | some c => exact ⟨_, _, exec_of_refusal hcheck, rfl, fun _ _ => rfl, nofun⟩
  | none =>
    obtain ⟨t, he, ht⟩ := exec_of_admitted hcheck
    obtain ⟨r, hr, hrefused, hfault⟩ := ht.response
    exact ⟨t, r, he, hr, fun c hc => (hrefused c hc).2, hfault⟩

/-- Settles O6: the table of R149 is the row each arm of `exec` names, and its checks go in the order of R386. -/
theorem commandsAreAdmittedByPhaseAndDirection : Obligations.CommandsAreAdmittedByPhaseAndDirection := by
  intro i s
  rw [← directionOk_admission]
  have hphases (p : Phase) : p ∈ Instr.phases i ↔ (Instr.admission i).phaseOk p = true := by
    rw [phaseOk_admission, decide_eq_true_iff]
  simp only [hphases, Bool.not_eq_true]
  refine ⟨fun hs hp => exec_of_refusal (check_of_fault hs hp), fun hs hp => exec_of_refusal (check_of_phase hs hp),
    fun hp hd => exec_of_refusal (check_of_direction hp hd), fun hp hd t he => ?_⟩
  obtain ⟨t', he', ht⟩ := exec_of_admitted (check_of_admitted hp hd)
  obtain rfl : t' = t := Host.Outcome.next.inj (he'.symm.trans he)
  obtain ⟨hinFault, hwrongDirection, hwrongPhase⟩ := ownRefusals_admission_codes i
  exact ⟨fun hr => hinFault (ht.code_mem hr), fun hr => hwrongDirection (ht.code_mem hr),
    fun hr => hwrongPhase (ht.code_mem hr)⟩

end Sys2Proof.Machine

/-! SUPPORT. The proofs of the statements of 41_header.md: packing and unpacking the header word (R190, R192), and the
stream identifier as big-endian bytes (R196, R197). -/

namespace Sys2Proof.Machine

open Sys2Proof

/-! ### Codec commands -/

@[simp] theorem args1_singleton {α : Type} (f : Operand → Option α) (a : Operand) : args1 f [a] = f a := rfl

/-- Three operands that fit are read in their order (R146). -/
theorem args3_of_some {α β γ : Type} {f : Operand → Option α} {g : Operand → Option β} {h : Operand → Option γ}
    {a b c : Operand} {x : α} {y : β} {z : γ} (hx : f a = some x) (hy : g b = some y) (hz : h c = some z) :
    args3 f g h [a, b, c] = some (x, y, z) := by
  simp only [args3, hx, hy, hz]

/-- In CONFIG and RUN a codec command whose operands fit is its operation on them. -/
theorem admit_beforeFault_of_operands {α : Type} {s : State} (hs : s.phase ≠ .fault) {o : Option α} {a : α}
    (ho : o = some a) (k : α → State) : whenAdmitted .beforeFault s (withOperands o s k) = k a := by
  rw [admit_of_check (check_beforeFault hs), ho, withOperands_some]

/-! ### HDR_ENCODE -/

theorem staticPositioned_iff (w : Word32) : staticPositioned w = true ↔ w.toNat % 2 ^ 20 = 0 := by
  rw [staticPositioned, beq_iff_eq, ← BitVec.toNat_inj, BitVec.extractLsb'_toNat]
  rfl

theorem or_eq_add_of_dvd_of_lt {k a b : Nat} (ha : 2 ^ k ∣ a) (hb : b < 2 ^ k) : a ||| b = a + b := by
  obtain ⟨c, rfl⟩ := ha
  exact (Nat.two_pow_add_eq_or_of_lt hb c).symm

/-- Operands that spill into no other field share no bit, so the header word is their sum at their weights (R190). -/
theorem headerWord_toNat {static seq wc : Word32} (hstatic : static.toNat % 2 ^ 20 = 0) (hseq : seq.toNat ≤ 15)
    (hwc : wc.toNat ≤ 0xFFFF) :
    (headerWord static seq wc).toNat = static.toNat + seq.toNat * 2 ^ 16 + wc.toNat := by
  have hshift : (seq <<< 16).toNat = seq.toNat * 2 ^ 16 := by
    rw [BitVec.toNat_shiftLeft, Nat.shiftLeft_eq, Nat.mod_eq_of_lt (by omega)]
  rw [headerWord, BitVec.toNat_or, BitVec.toNat_or, hshift,
    or_eq_add_of_dvd_of_lt (Nat.dvd_of_mod_eq_zero hstatic) (by omega),
    or_eq_add_of_dvd_of_lt (k := 16) (by omega) (by omega)]

theorem exec_hdrEncode_of_port {s : State} {static seq wc : Word32} (hs : s.phase ≠ .fault)
    (hport : s.port = [.word (static.setWidth 64), .word (seq.setWidth 64), .word (wc.setWidth 64)]) :
    exec .hdrEncode s = .next
      (if static.toNat % 2 ^ 20 ≠ 0 ∨ 15 < seq.toNat ∨ 0xFFFF < wc.toNat then s.refuse .badOperand
        else s.ok (.u32 (headerWord static seq wc))) := by
  have hargs : args3 asU32 asU32 asU32 s.port = some (static, seq, wc) := by
    rw [hport]
    exact args3_of_some (asU32_word _) (asU32_word _) (asU32_word _)
  rw [exec, execHdrEncode, admit_beforeFault_of_operands hs hargs]
  simp only [Bool.or_eq_true, Bool.not_eq_true', decide_eq_true_eq, ← Bool.not_eq_true, staticPositioned_iff, or_assoc,
    ne_eq]

/-- Settles O27: the two clauses are the two branches of the command, and the packed word is the sum of its fields. -/
theorem hdrEncodePacksTheFields : Obligations.HdrEncodePacksTheFields := by
  refine ⟨rfl, fun s static seq wc hs hport => ?_⟩
  rw [exec_hdrEncode_of_port hs hport]
  constructor
  · intro hspill
    rw [if_pos hspill]
    rfl
  · intro hstatic hseq hwc
    rw [if_neg (by omega), ← headerWord_toNat hstatic hseq hwc, BitVec.ofNat_toNat, BitVec.setWidth_eq]
    rfl

/-! ### HDR_DECODE -/

/-- A mask of the bits from `k` up clears the bits below. -/
theorem toNat_and_allOnes_shiftLeft {n : Nat} (w : BitVec n) (k : Nat) :
    (w &&& BitVec.allOnes n <<< k).toNat = w.toNat / 2 ^ k * 2 ^ k := by
  have hle : w.toNat / 2 ^ k * 2 ^ k < 2 ^ n := (Nat.div_mul_le_self _ _).trans_lt w.isLt
  rw [← BitVec.shiftLeft_ushiftRight, BitVec.toNat_shiftLeft, BitVec.toNat_ushiftRight, Nat.shiftLeft_eq,
    Nat.shiftRight_eq_div_pow, Nat.mod_eq_of_lt hle]

/-- The numbers of the fields of a header word (R130, R192). -/
theorem headerFields_toNat (w : Word32) :
    (headerFields w).kind.toNat = w.toNat / 2 ^ 28 ∧ (headerFields w).sequence.toNat = w.toNat / 2 ^ 16 % 16 ∧
    (headerFields w).wordCount.toNat = w.toNat % 2 ^ 16 ∧
    (headerFields w).staticPart.toNat = w.toNat / 2 ^ 20 * 2 ^ 20 ∧
    (headerFields w).static12.toNat = w.toNat / 2 ^ 20 := by
  have hw := w.isLt
  have hstatic : (headerFields w).staticPart.toNat = w.toNat / 2 ^ 20 * 2 ^ 20 := toNat_and_allOnes_shiftLeft w 20
  refine ⟨?_, ?_, ?_, hstatic, ?_⟩ <;>
    simp only [headerFields, BitVec.extractLsb'_toNat, Nat.shiftRight_eq_div_pow] <;> omega

theorem headerFields_isData (w : Word32) : (headerFields w).isData = decide (w.toNat / 2 ^ 28 = 1) := by
  obtain ⟨hkind, -⟩ := headerFields_toNat w
  rw [← hkind]
  exact decide_eq_decide.mpr BitVec.toNat_inj.symm

theorem exec_hdrDecode_of_port {s : State} {w : Word32} (hs : s.phase ≠ .fault)
    (hport : s.port = [.word (w.setWidth 64)]) :
    exec .hdrDecode s = .next (s.answered (.ok (.header (headerFields w))) []) := by
  have harg : args1 asU32 s.port = some w := by rw [hport, args1_singleton, asU32_word]
  rw [exec, execHdrDecode, admit_beforeFault_of_operands hs harg]
  rfl

/-- Settles O28: the header answered is `headerFields` of the word. -/
theorem hdrDecodeGivesTheFields : Obligations.HdrDecodeGivesTheFields := by
  refine ⟨rfl, fun s w hs hport => ⟨headerFields w, exec_hdrDecode_of_port hs hport, ?_⟩⟩
  obtain ⟨hkind, hsequence, hwordCount, hstaticPart, hstatic12⟩ := headerFields_toNat w
  exact ⟨hkind, hsequence, hwordCount, hstaticPart, hstatic12, headerFields_isData w⟩

/-! ### SID_ENCODE and SID_DECODE -/

/-- The byte of weight 256^n is the field of eight bits from bit 8n up. -/
theorem ofNat_div_pow_eq_extractLsb' {m : Nat} (x : BitVec m) (n : Nat) :
    BitVec.ofNat 8 (x.toNat / 256 ^ n) = x.extractLsb' (8 * n) 8 := by
  rw [BitVec.extractLsb', Nat.shiftRight_eq_div_pow, pow_mul]
  rfl

theorem beBytes_word (x : Word32) :
    beBytes 4 x.toNat = [x.extractLsb' 24 8, x.extractLsb' 16 8, x.extractLsb' 8 8, x.extractLsb' 0 8] := by
  simp only [beBytes, ofNat_div_pow_eq_extractLsb']

/-- Four bytes read as the word in which they follow one another, the first on top (R18). -/
theorem beRead_word (a b c d : Byte) : beRead [a, b, c, d] 0 4 = (a ++ b ++ c ++ d).toNat := by
  simp only [toNat_append_eq_add]
  simp [beRead, beNat]

theorem exec_sidEncode_of_port {s : State} {sid : Word32} (hs : s.phase ≠ .fault)
    (hport : s.port = [.word (sid.setWidth 64)]) :
    exec .sidEncode s = .next (s.answered (.ok (.bytes (beBytes 4 sid.toNat))) []) := by
  have harg : args1 asU32 s.port = some sid := by rw [hport, args1_singleton, asU32_word]
  rw [exec, execSidEncode, admit_beforeFault_of_operands hs harg]
  rfl

theorem exec_sidDecode_of_port {s : State} {buf : List Byte} (hs : s.phase ≠ .fault) (hport : s.port = [.bytes buf]) :
    exec .sidDecode s = .next
      (if buf.length = 4 then s.ok (.u32 (BitVec.ofNat 32 (beRead buf 0 4))) else s.refuse .badLength) := by
  have harg : args1 asBytes s.port = some buf := by rw [hport, args1_singleton, asBytes_bytes]
  rw [exec, execSidDecode, admit_beforeFault_of_operands hs harg, ite_not]

/-- Settles O30: the bytes of a word are its fields of eight bits, and four bytes read as the word they make up. -/
theorem sidCodecIsBigEndian : Obligations.SidCodecIsBigEndian := by
  refine ⟨rfl, rfl, fun s hs => ⟨fun sid hport => ?_, fun a b c d hport => ?_, fun buf hport hlen => ?_⟩⟩
  · rw [exec_sidEncode_of_port hs hport, beBytes_word]
  · have hlen : [a, b, c, d].length = 4 := rfl
    rw [exec_sidDecode_of_port hs hport, if_pos hlen, beRead_word, BitVec.ofNat_toNat, BitVec.setWidth_eq]
    rfl
  · rw [exec_sidDecode_of_port hs hport, if_neg hlen]
    rfl

end Sys2Proof.Machine

/-! SUPPORT. The proofs of the statements of 43_timestamp.md: setting the timestamp reference (R244, R270) and counting
a packet (R246). -/

namespace Sys2Proof.Machine

open Sys2Proof

/-! ### Setting the reference -/

/-- Two operands that fit are read in their order (R146). -/
theorem args2_of_some {α β : Type} {f : Operand → Option α} {g : Operand → Option β} {a b : Operand} {x : α} {y : β}
    (hx : f a = some x) (hy : g b = some y) : args2 f g [a, b] = some (x, y) := by
  simp only [args2, hx, hy]

/-- A command its row admits and whose operands fit is its operation on them. -/
theorem admit_of_operands {α : Type} {a : Admission} {s : State} (ha : a.check s = none) {o : Option α} {x : α}
    (ho : o = some x) (k : α → State) : whenAdmitted a s (withOperands o s k) = k x := by
  rw [admit_of_check ha, ho, withOperands_some]

/-- The operands of TS_RESET and TX_SET_TIME, a time (R244, R270). -/
theorem args2_time_of_port {s : State} {full : Word32} {frac : Word64}
    (hport : s.port = [.word (full.setWidth 64), .word frac]) : args2 asU32 asU64 s.port = some (full, frac) := by
  rw [hport]
  exact args2_of_some (asU32_word _) (asU64_word _)

theorem exec_tsReset_of_port {s : State} {full : Word32} {frac : Word64} (hs : s.phase = .run)
    (hport : s.port = [.word (full.setWidth 64), .word frac]) :
    exec .tsReset s = .next (s.resetTime full frac) := by
  rw [exec, execTsReset, admit_of_operands (check_running hs) (args2_time_of_port hport)]

theorem exec_txSetTime_of_port {s : State} {full : Word32} {frac : Word64} (hs : s.phase = .run)
    (hd : s.isSource = false) (hport : s.port = [.word (full.setWidth 64), .word frac]) :
    exec .txSetTime s = .next (s.resetTime full frac) := by
  rw [exec, execTxSetTime, admit_of_operands (check_sink hs hd) (args2_time_of_port hport)]

/-- Settles O38: both commands are `resetTime` of their operands, and the two clauses are its two branches. -/
theorem timeIsSetByReference : Obligations.TimeIsSetByReference := by
  refine ⟨rfl, rfl, fun s full frac hs hport => ?_⟩
  have hsets (i : Instr) (he : exec i s = .next (s.resetTime full frac)) :
      (frac.toNat < picosPerSecond →
        exec i s = .next ({ s with tsRef := ⟨full, frac⟩, tsPsr := 0 }.answered (.ok .unit) [])) ∧
      (picosPerSecond ≤ frac.toNat → exec i s = .next (s.answered (.refused .badOperand) [])) := by
    rw [he]
    rcases resetTime_cases s full frac with ⟨hle, h⟩ | ⟨hlt, h⟩ <;> rw [h]
    · exact ⟨fun hlt => absurd hle (Nat.not_le.mpr hlt), fun _ => rfl⟩
    · exact ⟨fun _ => rfl, fun hle => absurd hle (Nat.not_le.mpr hlt)⟩
  exact ⟨hsets .tsReset (exec_tsReset_of_port hs hport),
    fun hd => hsets .txSetTime (exec_txSetTime_of_port hs hd hport)⟩

/-! ### Counting a packet -/

theorem exec_tsTick_of_run {s : State} (hs : s.phase = .run) : exec .tsTick s = .next (s.tick.ok .unit) := by
  rw [exec, execTsTick, admit_of_check (check_running hs)]

/-- Adding 1 to a word counts modulo its width. -/
theorem ofNat_toNat_succ {w : Nat} (x : BitVec w) : BitVec.ofNat w (x.toNat + 1) = x + 1 := by
  rw [BitVec.ofNat_add, BitVec.ofNat_toNat, BitVec.setWidth_eq]
  rfl

/-- Settles O39: TS_TICK is `tick`, whose sum of words is the sum modulo 2^64. -/
theorem tsTickCountsOnePacket : Obligations.TsTickCountsOnePacket := by
  refine ⟨rfl, fun s hs => ?_⟩
  rw [exec_tsTick_of_run hs, ofNat_toNat_succ]
  rfl

end Sys2Proof.Machine

/-! SUPPORT. The proofs of the statements of 44_tx_framer.md: the static pattern (R272). -/

namespace Sys2Proof.Machine

open Sys2Proof

/-! ### TX_SET_STATIC -/

/-- TX_SET_STATIC of a running sink is its check of the pattern and its one write (R272). -/
theorem exec_txSetStatic_of_port {s : State} {w : Word32} (hs : s.phase = .run) (hd : s.isSource = false)
    (hport : s.port = [.word (w.setWidth 64)]) :
    exec .txSetStatic s = .next
      (if w.toNat % 2 ^ 20 = 0 then { s with txStatic := w }.ok .unit else s.refuse .badOperand) := by
  have harg : args1 asU32 s.port = some w := by rw [hport, args1_singleton, asU32_word]
  rw [exec, execTxSetStatic, admit_of_operands (check_sink hs hd) harg]
  simp only [Bool.not_eq_true', ← Bool.not_eq_true, staticPositioned_iff, ite_not]

/-- Settles O46: the two clauses are the two branches of the command. -/
theorem txSetStaticReplacesThePattern : Obligations.TxSetStaticReplacesThePattern := by
  refine ⟨rfl, fun s w hs hd hport => ?_⟩
  rw [exec_txSetStatic_of_port hs hd hport]
  constructor
  · intro hclear
    rw [if_pos hclear]
    rfl
  · intro hspill
    rw [if_neg hspill]
    rfl

end Sys2Proof.Machine

/-! SUPPORT. The proofs of the statements of 46_transport.md: the connection commands of a TCP source (R330, R332, R338),
the framing error (R336) and TRANSPORT_FAIL (R345). -/

namespace Sys2Proof.Machine

open Sys2Proof

/-! ### The framing error -/

/-- A field inside the first `k` bytes is read from them alone. -/
theorem beRead_take {off n k : Nat} (h : off + n ≤ k) (buf : List Byte) :
    beRead (buf.take k) off n = beRead buf off n := by
  rw [beRead, List.drop_take, List.take_take, Nat.min_eq_left (by omega), beRead]

/-- A buffer that holds at most `n` bytes is filled to the first `n` of the bytes at hand (R334). -/
theorem fillTcp_tcpBuf {s : State} {n : Nat} (h : s.tcpBuf.length ≤ n) :
    (s.fillTcp n).tcpBuf = (s.tcpBuf ++ s.tcpIn).take n := by
  rw [List.take_append, List.take_of_length_le h]
  rfl

/-- The framing stops at a header word whose word count is 0 (R334, R336). -/
theorem frameUnit_of_wordCount_zero {s : State} (hp : s.tcpPhase = .header) (hbuf : s.tcpBuf.length < 4)
    (hheld : 4 ≤ (s.tcpBuf ++ s.tcpIn).length) (hcount : beRead (s.tcpBuf ++ s.tcpIn) 2 2 = 0) :
    frameUnit s = .badCount (s.fillTcp 4) := by
  have hfill : (s.fillTcp 4).tcpBuf = (s.tcpBuf ++ s.tcpIn).take 4 := fillTcp_tcpBuf hbuf.le
  have hword : ¬ (s.fillTcp 4).tcpBuf.length < 4 := by
    rw [hfill, List.length_take_of_le hheld]
    exact Nat.lt_irrefl 4
  have hzero : beRead (s.fillTcp 4).tcpBuf 2 2 = 0 := by
    rw [hfill, beRead_take (by decide), hcount]
  simp only [frameUnit, if_pos hp, if_neg hword, if_pos hzero]

/-- A poll whose first unit is a framing error ends with the warning and the disconnection (R336). -/
theorem tcpPoll_of_badCount {s t : State} (hp : s.tcpPhase ≠ .disconnected) (hf : frameUnit s = .badCount t)
    (req : Nat) : s.tcpPoll req = (t.clearTcp .disconnected).reply .noPacket [.warn .tcpFraming 4] := by
  rw [State.tcpPoll, if_neg hp, pollLoop, hf]
  rfl

theorem exec_tcpRxPoll_of_port {s : State} {req : Word32} (hs : s.phase = .run) (hd : s.isSource = true)
    (ht : s.isTcp = true) (hport : s.port = [.word (req.setWidth 64)]) :
    exec .tcpRxPoll s = .next (s.tcpPoll req.toNat) := by
  have harg : args1 asU32 s.port = some req := by rw [hport, args1_singleton, asU32_word]
  rw [exec, execTcpRxPoll, admit_of_operands (check_sourceTcp hs hd ht) harg]

/-- Settles O56: the framing ends at the header word, and the disconnection overwrites every field that filling the
buffer has changed. -/
theorem zeroWordCountDisconnects : Obligations.ZeroWordCountDisconnects := by
  intro s req hs hd ht hport hp hbuf held hheld hcount
  have hconnected : s.tcpPhase ≠ .disconnected := by
    rw [hp]
    decide
  rw [exec_tcpRxPoll_of_port hs hd ht hport,
    tcpPoll_of_badCount hconnected (frameUnit_of_wordCount_zero hp hbuf hheld hcount)]
  rfl

/-! ### The connection commands -/

theorem exec_tcpRxAccept_of_sourceTcp {s : State} (hs : s.phase = .run) (hd : s.isSource = true)
    (ht : s.isTcp = true) :
    exec .tcpRxAccept s = .next
      (if s.tcpPhase = .disconnected then (s.clearTcp .header).ok .unit else s.refuse .wrongPhase) := by
  rw [exec, execTcpRxAccept, admit_of_check (check_sourceTcp hs hd ht), ite_not]

theorem exec_tcpRxBytes_of_port {s : State} {chunk : List Byte} (hs : s.phase = .run) (hd : s.isSource = true)
    (ht : s.isTcp = true) (hport : s.port = [.bytes chunk]) :
    exec .tcpRxBytes s = .next
      (if s.tcpPhase = .disconnected then s.refuse .wrongPhase
        else { s with tcpIn := s.tcpIn ++ chunk }.ok .unit) := by
  have harg : args1 asBytes s.port = some chunk := by rw [hport, args1_singleton, asBytes_bytes]
  rw [exec, execTcpRxBytes, admit_of_operands (check_sourceTcp hs hd ht) harg]

theorem exec_tcpRxDisconnect_of_sourceTcp {s : State} (hs : s.phase = .run) (hd : s.isSource = true)
    (ht : s.isTcp = true) : exec .tcpRxDisconnect s = .next ((s.clearTcp .disconnected).ok .unit) := by
  rw [exec, execTcpRxDisconnect, admit_of_check (check_sourceTcp hs hd ht)]

/-- Settles O52: with and without a client are the two branches of TCP_RX_ACCEPT and of TCP_RX_BYTES, and
TCP_RX_DISCONNECT asks for no client. -/
theorem tcpConnectionCommands : Obligations.TcpConnectionCommands := by
  refine ⟨rfl, rfl, rfl, fun s hs hd ht => ⟨fun hp => ?_, fun hp => ?_, fun chunk hport hp => ?_,
    fun chunk hport hp => ?_, exec_tcpRxDisconnect_of_sourceTcp hs hd ht⟩⟩
  · rw [exec_tcpRxAccept_of_sourceTcp hs hd ht, if_pos hp]
    rfl
  · rw [exec_tcpRxAccept_of_sourceTcp hs hd ht, if_neg hp]
    rfl
  · rw [exec_tcpRxBytes_of_port hs hd ht hport, if_neg hp]
    rfl
  · rw [exec_tcpRxBytes_of_port hs hd ht hport, if_pos hp]
    rfl

/-! ### TRANSPORT_FAIL -/

theorem exec_transportFail_of_not_fault {s : State} (hs : s.phase ≠ .fault) :
    exec .transportFail s = .next (s.raiseFatal .transportSetup []) := by
  rw [exec, execTransportFail, admit_of_check (check_beforeFault hs)]

/-- Settles O60: the row of TRANSPORT_FAIL admits it before FAULT whatever the direction (R149), and the command is the
fatal error itself. -/
theorem transportFailIsFatal : Obligations.TransportFailIsFatal :=
  ⟨rfl, fun _ hs => ⟨exec_transportFail_of_not_fault hs, rfl⟩⟩

end Sys2Proof.Machine

/-! SUPPORT. The proofs of the statements of 60_exceptions.md: what a command does in FAULT (R385). -/

namespace Sys2Proof.Machine

open Sys2Proof

/-! ### Commands in FAULT -/

/-- SOFT_RESET is performed in every phase (R366). -/
theorem exec_softReset_eq (s : State) : exec .softReset s = .next (s.softReset.ok .unit) := by
  rw [exec, execSoftReset, admit_of_check (check_always s)]

/-- REG_READ changes nothing but the answer, whether its address is a register's or not (R362). -/
theorem exec_regRead_eq_answered (a : RegAddr) (s : State) :
    ∃ r, exec (.regRead a) s = .next (s.answered r []) := by
  cases h : regAt a with
  | some r => exact ⟨_, exec_regRead_of_regAt h s⟩
  | none =>
    refine ⟨.refused .badAddress, ?_⟩
    simp only [exec, execRegRead, h, admit_of_check (check_always s), State.refuse, State.answered_eq_reply]

/-- The row of R149 that admits FAULT holds SOFT_RESET and REG_READ alone. -/
theorem admission_ne_always {i : Instr} (hreset : i ≠ .softReset) (hread : ∀ a, i ≠ .regRead a) :
    Instr.admission i ≠ .always := by
  cases i with
  | softReset => exact absurd rfl hreset
  | regRead a => exact absurd rfl (hread a)
  | _ => exact nofun

/-- FAULT refuses every other command (R385, R386). -/
theorem exec_of_fault {i : Instr} {s : State} (hs : s.phase = .fault) (hreset : i ≠ .softReset)
    (hread : ∀ a, i ≠ .regRead a) : exec i s = .next (s.answered (.refused .inFault) []) :=
  exec_of_refusal (check_fault (admission_ne_always hreset hread) hs)

/-- Settles O7: SOFT_RESET and REG_READ are performed, each by its own equation, and FAULT refuses the rest. -/
theorem faultIsLeftOnlyByReset : Obligations.FaultIsLeftOnlyByReset := by
  intro i s t hs he
  by_cases hreset : i = .softReset
  · subst hreset
    cases (exec_softReset_eq s).symm.trans he
    exact ⟨rfl, rfl, .inl ⟨rfl, rfl, rfl⟩⟩
  by_cases hread : ∃ a, i = .regRead a
  · obtain ⟨a, rfl⟩ := hread
    obtain ⟨r, hr⟩ := exec_regRead_eq_answered a s
    cases hr.symm.trans he
    exact ⟨rfl, rfl, .inr (.inl ⟨⟨a, rfl⟩, r, rfl⟩)⟩
  · have hother : ∀ a, i ≠ .regRead a := not_exists.mp hread
    cases (exec_of_fault hs hreset hother).symm.trans he
    exact ⟨rfl, rfl, .inr (.inr ⟨hreset, hother, rfl⟩)⟩

end Sys2Proof.Machine

/-! SUPPORT. The proofs of the statements of 30_encoding.md and 60_exceptions.md about words and numbers: the command
words are a codec (R145, R147), a step performs the oldest command (R110), and the numbers of the codes (R381 to R383). -/

namespace Sys2Proof.Machine

open Sys2Proof

/-! ### Decode and encode -/

theorem word_eq_append (w : Word32) : opField w ++ w.extractLsb' 0 24 = w := by
  apply BitVec.eq_of_toNat_eq
  rw [toNat_append_eq_add, ← word_toNat]

theorem formatC0_eq_ok {w : Word32} {i j : Instr} (h : formatC0 w j = .ok i) : i = j ∧ w.extractLsb' 0 24 = 0 := by
  have hlow := formatC0_ok h
  rw [formatC0, if_pos hlow] at h
  exact ⟨(Except.ok.inj h).symm, hlow⟩

theorem formatCR_eq_ok {w : Word32} {f : RegAddr → Instr} {i : Instr} (h : formatCR w f = .ok i) :
    i = f (addrField w) ∧ w.extractLsb' 0 24 = (0 : BitVec 12) ++ addrField w := by
  have hmid := formatCR_ok h
  rw [formatCR, if_pos hmid] at h
  refine ⟨(Except.ok.inj h).symm, ?_⟩
  rw [← hmid]
  exact (BitVec.extractLsb'_append_extractLsb'_eq_extractLsb' (start₁ := 0) (len₁ := 12) (len₂ := 12) rfl).symm

/-- The one OP of format CP stands for one command with bits 23:0 clear and for another with bit 0 set. -/
theorem formatCP_eq_ok {w : Word32} {p0 p1 i : Instr} (h : formatCP w p0 p1 = .ok i) :
    (i = p0 ∧ w.extractLsb' 0 24 = 0) ∨ (i = p1 ∧ w.extractLsb' 0 24 = 1) := by
  have hhigh := formatCP_ok h
  rw [formatCP, if_pos hhigh] at h
  have hi := (Except.ok.inj h).symm
  have hsplit : w.extractLsb' 0 24 = w.extractLsb' 1 23 ++ w.extractLsb' 0 1 :=
    (BitVec.extractLsb'_append_extractLsb'_eq_extractLsb' (start₁ := 0) (len₁ := 1) (len₂ := 23) rfl).symm
  rw [hsplit, hhigh]
  rcases BitVec.eq_zero_or_eq_one (w.extractLsb' 0 1) with hp | hp <;> rw [hp] at hi ⊢
  · exact .inl ⟨hi, rfl⟩
  · exact .inr ⟨hi, rfl⟩

/-- What the decoder accepts carries the command's OP and the command's low field, by the format of its row (R145). -/
theorem decode_eq_ok {w : Word32} {i : Instr} (h : decode w = .ok i) :
    opField w = i.opcode ∧ w.extractLsb' 0 24 = i.lowField := by
  unfold decode at h
  split at h
  case h_2 hop =>
    obtain ⟨rfl, hlow⟩ := formatCR_eq_ok h
    exact ⟨BitVec.eq_of_toNat_eq hop, hlow⟩
  case h_3 hop =>
    obtain ⟨rfl, hlow⟩ := formatCR_eq_ok h
    exact ⟨BitVec.eq_of_toNat_eq hop, hlow⟩
  case h_11 hop =>
    rcases formatCP_eq_ok h with ⟨rfl, hlow⟩ | ⟨rfl, hlow⟩
    · exact ⟨BitVec.eq_of_toNat_eq hop, hlow⟩
    · exact ⟨BitVec.eq_of_toNat_eq hop, hlow⟩
  case h_28 => cases h
  all_goals
    obtain ⟨rfl, hlow⟩ := formatC0_eq_ok h
    exact ⟨BitVec.eq_of_toNat_eq ‹_›, hlow⟩

theorem addrField_crWord (op : BitVec 8) (a : RegAddr) : addrField (op ++ ((0 : BitVec 12) ++ a)) = a := by
  apply BitVec.eq_of_toNat_eq
  have ha := a.isLt
  simp only [addrField, BitVec.extractLsb'_toNat, toNat_append_eq_add, Nat.shiftRight_zero]
  omega

/-- The decoder reads a word of format CR by its OP, its zero bits and its address. -/
theorem decode_encode_cr {i : Instr} {a : RegAddr} (hi : i = .regWrite a ∨ i = .regRead a) : decode (encode i) = .ok i := by
  rcases hi with rfl | rfl
  · obtain ⟨hop, hmid⟩ := Laws.Format.regWrite a
    have haddr : addrField (encode (.regWrite a)) = a := addrField_crWord _ a
    simp [decode, hop, Instr.opcode, formatCR, hmid, haddr]
  · obtain ⟨hop, hmid⟩ := Laws.Format.regRead a
    have haddr : addrField (encode (.regRead a)) = a := addrField_crWord _ a
    simp [decode, hop, Instr.opcode, formatCR, hmid, haddr]

/-- Settles O1: the words of the commands without an address are closed and evaluate; a word is its OP and its low 24
bits, which the decoder has checked against the command's. -/
theorem decodeEncodeAgree : Obligations.DecodeEncodeAgree := by
  refine ⟨fun i => ?_, fun w i h => ?_⟩
  · cases i with
    | regWrite a => exact decode_encode_cr (.inl rfl)
    | regRead a => exact decode_encode_cr (.inr rfl)
    | _ => rfl
  · obtain ⟨hop, hlow⟩ := decode_eq_ok h
    rw [encode, ← hop, ← hlow, word_eq_append]

/-- Settles O3: each word is closed, and the decoder evaluates on it. -/
theorem familyWordsDecode : Obligations.FamilyWordsDecode :=
  ⟨rfl, rfl, rfl, rfl, rfl, rfl, rfl, rfl, rfl, rfl, rfl, rfl, rfl, rfl⟩

/-! ### One step -/

theorem step_of_nil {s : State} (hq : s.cmdq = []) : step s = .next s := by
  simp only [step, hq]

theorem step_of_decode_ok {s : State} {c : Command} {rest : List Command} {i : Instr} (hq : s.cmdq = c :: rest)
    (h : decode c.word = .ok i) : step s = exec i (s.take c rest) := by
  simp only [step, hq, h]

/-- What a step can do: hold the state, refuse a word that is no command, or perform the oldest command. -/
theorem step_cases {s t : State} (h : step s = .next t) :
    (s.cmdq = [] ∧ t = s) ∨
      ∃ c rest, s.cmdq = c :: rest ∧
        (t = (s.take c rest).refuse .illegalCommand ∨ ∃ i, decode c.word = .ok i ∧ exec i (s.take c rest) = .next t) := by
  cases hq : s.cmdq with
  | nil => exact .inl ⟨rfl, (Host.Outcome.next.inj ((step_of_nil hq).symm.trans h)).symm⟩
  | cons c rest =>
    refine .inr ⟨c, rest, rfl, ?_⟩
    cases hw : decode c.word with
    | error e => exact .inl (Host.Outcome.next.inj ((step_of_decode_error hq hw).symm.trans h)).symm
    | ok i => exact .inr ⟨i, rfl, (step_of_decode_ok hq hw).symm.trans h⟩

/-- Settles O4: the update of the statement is `take`. -/
theorem stepPerformsTheDecodedCommand : Obligations.StepPerformsTheDecodedCommand :=
  ⟨fun _ _ _ _ hq h => step_of_decode_ok hq h, fun _ hq => step_of_nil hq⟩

/-! ### The numbers of the codes -/

/-- Settles O14: each number is the entry of its table, and the two tables give a mismatch the number of `ProtoCode`. -/
theorem errorCodesHaveTheirNumbers : Obligations.ErrorCodesHaveTheirNumbers :=
  ⟨rfl, rfl, rfl, rfl, rfl, rfl, rfl, rfl, rfl, rfl, rfl, rfl, rfl, rfl, rfl, rfl, rfl, rfl, rfl, rfl, rfl, rfl, rfl,
    rfl, fun _ => rfl⟩

end Sys2Proof.Machine

/-! SUPPORT. The proofs of the statements of 20_memory.md and 47_control.md: register access (R360, R362), START (R364)
and SOFT_RESET (R366). -/

namespace Sys2Proof.Machine

open Sys2Proof

/-! ### The register map -/

theorem mem_allRegs (r : Reg) : r ∈ allRegs := List.mem_of_find?_eq_some (regAt_addr r)

theorem Reg.addr_injective : Function.Injective Reg.addr := fun r q h =>
  Option.some.inj ((regAt_addr r).symm.trans ((congrArg regAt h).trans (regAt_addr q)))

/-- The map of the statements is the address map of the model with the value of every register. -/
theorem registerMap_eq_map : registerMap = allRegs.map fun r => (r.addr, fun s => readReg s r) := rfl

theorem mem_registerMap_iff {row : RegAddr × (State → Word64)} :
    row ∈ registerMap ↔ ∃ r : Reg, row = (r.addr, fun s => readReg s r) := by
  rw [registerMap_eq_map, List.mem_map]
  exact ⟨fun ⟨r, _, h⟩ => ⟨r, h.symm⟩, fun ⟨r, h⟩ => ⟨r, mem_allRegs r, h.symm⟩⟩

/-- An address outside the map is no register's. -/
theorem regAt_eq_none {a : RegAddr} (h : ∀ row ∈ registerMap, row.1 ≠ a) : regAt a = none := by
  refine List.find?_eq_none.mpr fun r _ => ?_
  rw [beq_iff_eq]
  exact h _ (mem_registerMap_iff.mpr ⟨r, rfl⟩)

theorem exec_regRead_of_regAt_none {a : RegAddr} (h : regAt a = none) (s : State) :
    exec (.regRead a) s = .next (s.answered (.refused .badAddress) []) := by
  simp only [exec, execRegRead, h, admit_of_check (check_always s), State.refuse, State.answered_eq_reply]

/-- Settles O15: the rows of the map are the registers at their addresses, and no register is at any other. -/
theorem regReadGivesTheRegister : Obligations.RegReadGivesTheRegister := by
  intro s a
  refine ⟨fun row hrow ha => ?_, fun hno => exec_regRead_of_regAt_none (regAt_eq_none hno) s⟩
  obtain ⟨r, rfl⟩ := mem_registerMap_iff.mp hrow
  exact exec_regRead_of_regAt (ha ▸ regAt_addr r) s

/-! ### Writing a register -/

/-- The row of a configuration register in the statements' table of widths and reserved bits. -/
def CfgReg.row (r : CfgReg) : RegAddr × Nat × Word64 := (r.addr, if r.is64 then 64 else 32, r.reservedMask)

/-- The row of a register where it is a configuration register. -/
def Reg.row? : Reg → Option (RegAddr × Nat × Word64)
  | .cfg r => some r.row
  | .status _ => none

theorem writableMap_eq_filterMap : writableMap = allRegs.filterMap Reg.row? := rfl

theorem exists_row_of_mem_writableMap {row : RegAddr × Nat × Word64} (h : row ∈ writableMap) :
    ∃ r : CfgReg, row = r.row := by
  rw [writableMap_eq_filterMap, List.mem_filterMap] at h
  obtain ⟨r, -, hr⟩ := h
  cases r with
  | cfg r => exact ⟨r, (Option.some.inj hr).symm⟩
  | status r => cases hr

theorem CfgReg.regAt_addr (r : CfgReg) : regAt r.addr = some (.cfg r) := Sys2Proof.Machine.regAt_addr (.cfg r)

theorem CfgReg.addr_eq_t0Frac_iff (r : CfgReg) : r.addr = 0x088 ↔ r = .t0Frac :=
  ⟨fun h => Reg.cfg.inj (Reg.addr_injective (a₁ := .cfg r) (a₂ := .cfg .t0Frac) h), fun h => h ▸ rfl⟩

theorem CfgReg.fits_iff (r : CfgReg) (v : Word64) :
    (r.is64 || decide (v.toNat < 2 ^ 32)) = true ↔ v.toNat < 2 ^ r.row.2.1 := by
  have hv := v.isLt
  cases h : r.is64 <;> simp [CfgReg.row, h]
  exact hv

/-- What REG_WRITE accepts are the legal writes of the register's row (R360). -/
theorem CfgReg.accepts_iff (r : CfgReg) (v : Word64) : r.accepts v = true ↔ LegalWrite r.row v := by
  have hfrac : (r != .t0Frac || decide (v.toNat < picosPerSecond)) = true ↔
      (r.addr = 0x088 → v.toNat < picosPerSecond) := by
    rw [r.addr_eq_t0Frac_iff, Bool.or_eq_true, bne_iff_ne, decide_eq_true_eq, imp_iff_not_or]
  rw [CfgReg.accepts, Bool.and_eq_true, Bool.and_eq_true, hfrac, r.fits_iff, beq_iff_eq, and_assoc]
  rfl

/-- A number within 32 bits is kept by a 32-bit register. -/
theorem setWidth_setWidth_of_lt {v : Word64} (h : v.toNat < 2 ^ 32) : (v.setWidth 32).setWidth 64 = v := by
  apply BitVec.eq_of_toNat_eq
  simp only [BitVec.toNat_setWidth]
  omega

theorem CfgRegs.get_set_same (c : CfgRegs) {r : CfgReg} {v : Word64} (h : v.toNat < 2 ^ r.row.2.1) :
    (c.set r v).get r = v := by
  cases r with
  | sampleRate | bandwidth | ifRefFreq | rfRefFreq | ifBandOffset | tsAdj | t0Frac => rfl
  | _ => exact setWidth_setWidth_of_lt h

theorem CfgRegs.get_set_other (c : CfgRegs) {r q : CfgReg} (h : q ≠ r) (v : Word64) : (c.set r v).get q = c.get q := by
  cases r <;> cases q <;> first | rfl | exact absurd rfl h

/-- No status register shows a configuration register (R62). -/
theorem StatusReg.read_cfg (r : StatusReg) (s : State) (c : CfgRegs) : r.read { s with cfg := c } = r.read s := by
  cases r <;> rfl

/-- Reading back after a legal write: the written register gives the value, every other what it gave before. -/
theorem readReg_set (s : State) {r : CfgReg} {v : Word64} (h : v.toNat < 2 ^ r.row.2.1) (q : Reg) :
    readReg { s with cfg := s.cfg.set r v } q = if q.addr = r.addr then v else readReg s q := by
  have haddr : q.addr = r.addr ↔ q = .cfg r := ⟨fun he => Reg.addr_injective he, fun he => he ▸ rfl⟩
  simp only [haddr]
  cases q with
  | status q => rw [if_neg nofun]; exact q.read_cfg s _
  | cfg q =>
    by_cases hq : q = r
    · rw [if_pos (congrArg _ hq), hq]
      exact s.cfg.get_set_same h
    · rw [if_neg fun he => hq (Reg.cfg.inj he)]
      exact s.cfg.get_set_other hq v

theorem exec_regWrite_of_port {s : State} {v : Word64} (r : CfgReg) (hs : s.phase = .config) (hport : s.port = [.word v]) :
    exec (.regWrite r.addr) s = .next
      (if r.accepts v then { s with cfg := s.cfg.set r v }.ok .unit else s.refuse .badOperand) := by
  simp only [exec, execRegWrite, r.regAt_addr, admit_of_check (check_configOnly hs), hport, args1_singleton, asU64_word,
    withOperands_some]

theorem exec_regWrite_of_regAt_none {a : RegAddr} (h : regAt a = none) {s : State} (hs : s.phase = .config) :
    exec (.regWrite a) s = .next (s.answered (.refused .badAddress) []) := by
  simp only [exec, execRegWrite, h, admit_of_check (check_configOnly hs), State.refuse, State.answered_eq_reply]

/-- Settles O17: a row of the table is a configuration register, whose checks the value passes. -/
theorem regWriteStoresALegalValue : Obligations.RegWriteStoresALegalValue := by
  intro s row v hs hport hrow hlegal
  obtain ⟨r, rfl⟩ := exists_row_of_mem_writableMap hrow
  refine ⟨s.cfg.set r v, ?_, fun e he => ?_⟩
  · exact (exec_regWrite_of_port r hs hport).trans (congrArg _ (if_pos ((r.accepts_iff v).mpr hlegal)))
  · obtain ⟨q, rfl⟩ := mem_registerMap_iff.mp he
    exact readReg_set s hlegal.1 q

theorem CfgReg.addr_lt (r : CfgReg) : r.addr.toNat < 0x100 := by
  cases r <;> decide

/-- Settles O18: from 0x100 on stand the status registers, and a row of the table of widths is a configuration register
whose checks the value does not pass. -/
theorem regWriteRefusals : Obligations.RegWriteRefusals := by
  intro s a hs
  refine ⟨?_, fun hno => exec_regWrite_of_regAt_none (regAt_eq_none hno) hs, fun row hrow ha v hport hillegal => ?_⟩
  · rintro ⟨e, he, rfl, hhigh⟩
    obtain ⟨r, rfl⟩ := mem_registerMap_iff.mp he
    cases r with
    | cfg r => exact absurd r.addr_lt (Nat.not_lt.mpr hhigh)
    | status r => exact exec_regWrite_of_status (regAt_addr (.status r)) hs
  · obtain ⟨r, rfl⟩ := exists_row_of_mem_writableMap hrow
    have hreject : ¬ r.accepts v = true := fun hok => hillegal ((r.accepts_iff v).mp hok)
    rw [← ha]
    exact (exec_regWrite_of_port r hs hport).trans (congrArg _ (if_neg hreject))

/-! ### SOFT_RESET -/

/-- Settles O11: the reset procedure keeps what the statement names and nothing else. -/
theorem softResetReturnsEveryElementToReset : Obligations.SoftResetReturnsEveryElementToReset :=
  exec_softReset_eq

/-! ### START -/

/-- The checks of the statements on a value FXP_ENCODE takes are those of FXP_ENCODE (R176). -/
theorem encodable_iff (v : Word64) : encodable v = true ↔ EncodableValue v := by
  unfold encodable fxpOfF64 EncodableValue
  cases hnan : f64IsNaN v with
  | true => simp
  | false =>
    cases hsign : f64Sign v with
    | true => by_cases hlt : 2 * f64Mag v < f64One <;> simp [hlt]
    | false => by_cases hlt : 2 * f64Mag v < (2 ^ 45 - 1) * f64One <;> simp only [hlt] <;> simp

/-- The bit depths that START accepts (R46). -/
theorem depth_legal_iff (s : State) : s.depth ≠ 8 ∧ s.depth ≠ 16 ↔ s.cfg.bitDepth ≠ 8 ∧ s.cfg.bitDepth ≠ 16 := by
  simp only [State.depth, ne_eq, ← BitVec.toNat_inj]
  rfl

/-- Legal numbers of samples per packet by bit depth (R47). -/
theorem sppLegal_iff {bd : Nat} (h : bd = 8 ∨ bd = 16) (spp : Nat) :
    sppLegal bd spp = true ↔
      2 ≤ spp ∧ (bd = 16 → spp ≤ 65530) ∧ (bd = 8 → spp ≤ 131060 ∧ spp % 2 = 0) := by
  rcases h with rfl | rfl
  · simp [sppLegal, sppMax]; omega
  · simp [sppLegal, sppMax]

theorem exec_start_of_check {s : State} (hs : s.phase = .config) {c : FatalCode} (h : startCheck s = some c) :
    exec .start s = .next (s.faulted c []) := by
  simp only [exec, execStart, admit_of_check (check_configOnly hs), h, State.faulted_eq_raiseFatal]

theorem exec_start_of_legal {s : State} (hs : s.phase = .config) (h : startCheck s = none) :
    exec .start s = .next (s.enterRun.ok .unit) := by
  simp only [exec, execStart, admit_of_check (check_configOnly hs), h]

/-- Illegal numbers of samples per packet by bit depth, as the statements write them. -/
theorem sppLegal_not_iff {s : State} (h : s.cfg.bitDepth = 8 ∨ s.cfg.bitDepth = 16) :
    (!sppLegal s.depth s.cfg.spp.toNat) = true ↔
      s.cfg.spp.toNat < 2 ∨ (s.cfg.bitDepth = 16 ∧ 65530 < s.cfg.spp.toNat) ∨
        (s.cfg.bitDepth = 8 ∧ (131060 < s.cfg.spp.toNat ∨ s.cfg.spp.toNat % 2 = 1)) := by
  rw [Bool.not_eq_true', ← Bool.not_eq_true]
  rcases h with h | h
  · have hbd : s.depth = 8 := by rw [State.depth, h]; rfl
    rw [hbd, h, sppLegal_iff (.inl rfl)]
    simp
    omega
  · have hbd : s.depth = 16 := by rw [State.depth, h]; rfl
    rw [hbd, h, sppLegal_iff (.inr rfl)]
    simp
    omega

theorem badInterval_iff (s : State) :
    (!s.isPaired && s.cfg.ctxInterval == 0) = true ↔ s.cfg.ctrl.getLsbD 2 = false ∧ s.cfg.ctxInterval = 0 := by
  rw [Bool.and_eq_true, Bool.not_eq_true', beq_iff_eq]
  rfl

theorem badRate_iff (v : Word64) :
    (!f64IsPositiveFinite v || !encodable v) = true ↔ f64IsPositiveFinite v = false ∨ ¬ EncodableValue v := by
  rw [Bool.or_eq_true, Bool.not_eq_true', Bool.not_eq_true', ← Bool.not_eq_true (encodable v), encodable_iff]

theorem badBandwidth_iff (v : Word64) : (!encodable v) = true ↔ ¬ EncodableValue v := by
  rw [Bool.not_eq_true', ← Bool.not_eq_true, encodable_iff]

/-- A bit depth other than 8 and 16 fails first, in either direction (R364). -/
theorem startCheck_of_badDepth {s : State} (h : s.cfg.bitDepth ≠ 8 ∧ s.cfg.bitDepth ≠ 16) :
    startCheck s = some .cfgBitDepth := by
  rw [startCheck]
  exact if_pos ((depth_legal_iff s).mpr h)

/-- The source checks the bit depth only (R364). -/
theorem startCheck_of_source {s : State} (hdepth : ¬ (s.cfg.bitDepth ≠ 8 ∧ s.cfg.bitDepth ≠ 16))
    (hd : s.isSource = true) : startCheck s = none := by
  rw [startCheck]
  exact (if_neg (mt (depth_legal_iff s).mp hdepth)).trans (if_pos hd)

/-- The checks of the sink after the bit depth, in their order (R364). -/
theorem startCheck_of_sink {s : State} (hdepth : ¬ (s.cfg.bitDepth ≠ 8 ∧ s.cfg.bitDepth ≠ 16))
    (hd : s.isSource = false) :
    startCheck s =
      if !sppLegal s.depth s.cfg.spp.toNat then some .cfgSpp
      else if s.cfg.ctxSize ≠ 72 ∧ s.cfg.ctxSize ≠ 108 then some .cfgCtxSize
      else if !s.isPaired && s.cfg.ctxInterval == 0 then some .cfgCtxInterval
      else if !f64IsPositiveFinite s.cfg.sampleRate || !encodable s.cfg.sampleRate then some .cfgSampleRate
      else if !encodable s.cfg.bandwidth then some .cfgBandwidth
      else none := by
  rw [startCheck]
  exact (if_neg (mt (depth_legal_iff s).mp hdepth)).trans (if_neg (Bool.eq_false_iff.mp hd))

theorem bitDepth_of_not_bad {s : State} (h : ¬ (s.cfg.bitDepth ≠ 8 ∧ s.cfg.bitDepth ≠ 16)) :
    s.cfg.bitDepth = 8 ∨ s.cfg.bitDepth = 16 := by
  rwa [not_and_or, not_not, not_not] at h

/-- Settles O20: each clause walks down the chain of checks to the first that fails. -/
theorem startReportsTheFirstFailure : Obligations.StartReportsTheFirstFailure := by
  intro s hs
  refine ⟨fun hbad => exec_start_of_check hs (startCheck_of_badDepth hbad), fun hd hdepth => ?_⟩
  have hchain := startCheck_of_sink hdepth hd
  rw [← sppLegal_not_iff (bitDepth_of_not_bad hdepth), ← badInterval_iff, ← badRate_iff, ← badBandwidth_iff]
  refine ⟨fun hspp => ?_, fun hspp hsize => ?_, fun hspp hsize hinterval => ?_, fun hspp hsize hinterval hrate => ?_,
    fun hspp hsize hinterval hrate hband => ?_⟩
  · exact exec_start_of_check hs (by rw [hchain, if_pos hspp])
  · exact exec_start_of_check hs (by rw [hchain, if_neg hspp, if_pos hsize])
  · exact exec_start_of_check hs (by rw [hchain, if_neg hspp, if_neg hsize, if_pos hinterval])
  · exact exec_start_of_check hs (by rw [hchain, if_neg hspp, if_neg hsize, if_neg hinterval, if_pos hrate])
  · exact exec_start_of_check hs
      (by rw [hchain, if_neg hspp, if_neg hsize, if_neg hinterval, if_neg hrate, if_pos hband])

theorem enterRun_of_source {s : State} (hd : s.isSource = true) : s.enterRun = { s with phase := .run } := by
  rw [State.enterRun, if_pos hd]

theorem enterRun_of_sink {s : State} (hd : s.isSource = false) : s.enterRun = { s.loadSink with phase := .run } := by
  rw [State.enterRun, if_neg (Bool.eq_false_iff.mp hd)]

/-- Settles O19: no check of the direction's chain fails, and the sink's part of entering RUN is `loadSink`. -/
theorem startEntersRun : Obligations.StartEntersRun := by
  intro s hs hbd
  have hdepth : ¬ (s.cfg.bitDepth ≠ 8 ∧ s.cfg.bitDepth ≠ 16) := by rwa [not_and_or, not_not, not_not]
  refine ⟨fun hd => ?_, fun hd hspp hspp16 hspp8 hsize hinterval hrate hrate' hband => ?_⟩
  · rw [exec_start_of_legal hs (startCheck_of_source hdepth hd), enterRun_of_source hd]
    rfl
  · have hsppOk : ¬ (!sppLegal s.depth s.cfg.spp.toNat) = true := by
      rw [sppLegal_not_iff hbd]
      rintro (h | ⟨h16, h⟩ | ⟨h8, h⟩)
      · omega
      · exact absurd (hspp16 h16) (Nat.not_le.mpr h)
      · have := hspp8 h8
        omega
    have hsizeOk : ¬ (s.cfg.ctxSize ≠ 72 ∧ s.cfg.ctxSize ≠ 108) := by rwa [not_and_or, not_not, not_not]
    have hintervalOk : ¬ (!s.isPaired && s.cfg.ctxInterval == 0) = true :=
      mt (badInterval_iff s).mp fun h => hinterval h.1 h.2
    have hrateOk : ¬ (!f64IsPositiveFinite s.cfg.sampleRate || !encodable s.cfg.sampleRate) = true := by
      rw [badRate_iff, hrate, not_or, not_not]
      exact ⟨nofun, hrate'⟩
    have hbandOk : ¬ (!encodable s.cfg.bandwidth) = true := mt (badBandwidth_iff _).mp (not_not.mpr hband)
    have hlegal : startCheck s = none := by
      rw [startCheck_of_sink hdepth hd, if_neg hsppOk, if_neg hsizeOk, if_neg hintervalOk, if_neg hrateOk,
        if_neg hbandOk]
    rw [exec_start_of_legal hs hlegal, enterRun_of_sink hd]
    rfl

end Sys2Proof.Machine

/-! SUPPORT. The proofs of the statements that hold of every command: the configuration outside CONFIG (R115, R430), the
egress stream (R112), and the invariant of 10_state.md. -/

namespace Sys2Proof.Machine

open Sys2Proof

/-! ### How a command's arm ends -/

/-- A property of every refusal and of what an admitted command does holds of the command. -/
theorem whenAdmitted_elim {P : State → Prop} {a : Admission} {s t : State} (hrefuse : ∀ c, P (s.refuse c))
    (hadmit : a.check s = none → P t) : P (whenAdmitted a s t) := by
  rcases admit_cases a s t with ⟨c, -, h⟩ | ⟨hcheck, h⟩ <;> rw [h]
  · exact hrefuse c
  · exact hadmit hcheck

theorem withOperands_elim {P : State → Prop} {α : Type} {o : Option α} {s : State} {k : α → State}
    (hrefuse : ∀ c, P (s.refuse c)) (hk : ∀ a, P (k a)) : P (withOperands o s k) := by
  cases o with
  | none => exact hrefuse _
  | some a => exact hk a

theorem ite_elim {P : State → Prop} {p : Prop} [Decidable p] {t u : State} (ht : p → P t) (hu : ¬ p → P u) :
    P (if p then t else u) := iteInduction ht hu

/-- An admitted command stands in a phase and a direction of its row (R149). -/
theorem admitted_of_check {a : Admission} {s : State} (h : a.check s = none) :
    a.phaseOk s.phase = true ∧ a.directionOk s = true := by
  by_cases hp : a.phaseOk s.phase = true
  · refine ⟨hp, ?_⟩
    by_contra hd
    exact nomatch h.symm.trans (check_of_direction hp (Bool.eq_false_iff.mpr hd))
  · rw [Bool.not_eq_true] at hp
    by_cases hs : s.phase = .fault
    · exact nomatch h.symm.trans (check_of_fault hs (hs ▸ hp))
    · exact nomatch h.symm.trans (check_of_phase hs hp)

/-! ### What framing and polling may write -/

/-- The state in which the framing of a unit ended. -/
def Framed.state : Framed → State
  | .short t => t
  | .badCount t => t
  | .whole t _ => t

/-- The framing writes the framing state and nothing else (R334). -/
theorem frameUnit_frame (s : State) :
    ∃ a b c d, (frameUnit s).state = { s with tcpIn := a, tcpBuf := b, tcpNeed := c, tcpPhase := d } := by
  have hbody (r : State) :
      ∃ a b c d, (frameBody r).state = { r with tcpIn := a, tcpBuf := b, tcpNeed := c, tcpPhase := d } := by
    unfold frameBody
    dsimp only
    split
    · exact ⟨_, _, _, _, rfl⟩
    · exact ⟨_, _, _, _, rfl⟩
  unfold frameUnit
  dsimp only
  split
  · split
    · exact ⟨_, _, _, _, rfl⟩
    · split
      · exact ⟨_, _, _, _, rfl⟩
      · obtain ⟨a, b, c, d, h⟩ := hbody { s.fillTcp 4 with
          tcpNeed := BitVec.ofNat 32 (4 * beRead (s.fillTcp 4).tcpBuf 2 2), tcpPhase := .body }
        exact ⟨a, b, c, d, h⟩
  · exact hbody s

/-- The states in which one round of the poll leaves the framing: `R` of those in which the poll ends without a unit,
`Q` of those in which it may go on. -/
def Framed.Round (Q R : State → Prop) (req : Nat) : Framed → Prop
  | .short t => R t
  | .badCount t => R (t.clearTcp .disconnected)
  | .whole t u => Q (rxStep t u req).st

/-- What every round keeps holds of the poll's answer (R334). -/
theorem pollLoop_elim {P Q R : State → Prop} {req : Nat} (hround : ∀ s, Q s → (frameUnit s).Round Q R req)
    (hend : ∀ s, Q s → R s) (hreply : ∀ t r evs, R t → P (t.reply r evs))
    (hfatal : ∀ t c evs, R t → P (t.raiseFatal c evs)) (fuel : Nat) (evs : List Event) (s : State) (hs : Q s) :
    P (pollLoop fuel req evs s) := by
  induction fuel generalizing evs s with
  | zero => exact hreply _ _ _ (hend _ hs)
  | succ fuel ih =>
    have hq := hround s hs
    rw [pollLoop]
    cases hf : frameUnit s with
    | short t =>
      rw [hf] at hq
      exact hreply _ _ _ hq
    | badCount t =>
      rw [hf] at hq
      exact hreply _ _ _ hq
    | whole t u =>
      rw [hf] at hq
      dsimp only
      split
      · exact hfatal _ _ _ (hend _ hq)
      · exact hreply _ _ _ (hend _ hq)
      · exact ih _ _ hq

/-! ### The configuration and the egress stream -/

/-- Neither the configuration nor the egress stream has changed. -/
def SameStream (s t : State) : Prop := t.cfg = s.cfg ∧ t.egress = s.egress

theorem SameStream.trans {s t u : State} (h : SameStream s t) (h' : SameStream t u) : SameStream s u :=
  ⟨h'.1.trans h.1, h'.2.trans h.2⟩

theorem RxFrame.sameStream {s t : State} (h : RxFrame s t) : SameStream s t := by
  obtain ⟨_, _, _, _, _, _, rfl⟩ := h.same
  exact ⟨rfl, rfl⟩

theorem frameUnit_sameStream (s : State) : SameStream s (frameUnit s).state := by
  obtain ⟨_, _, _, _, h⟩ := frameUnit_frame s
  rw [h]
  exact ⟨rfl, rfl⟩

theorem pollLoop_sameStream (fuel req : Nat) (evs : List Event) (s : State) :
    SameStream s (pollLoop fuel req evs s) := by
  refine pollLoop_elim (Q := SameStream s) (R := SameStream s) (fun r hr => ?_) (fun _ h => h) (fun _ _ _ h => h)
    (fun _ _ _ h => h) fuel evs s ⟨rfl, rfl⟩
  have hf := hr.trans (frameUnit_sameStream r)
  cases hu : frameUnit r with
  | short t => rwa [hu] at hf
  | badCount t =>
    rw [hu] at hf
    exact hf
  | whole t u =>
    rw [hu] at hf
    exact hf.trans (rxStep_frame t u req).sameStream

theorem respond_sameStream {s : State} {r : RxStep} (h : SameStream s r.st) : SameStream s r.respond := by
  unfold RxStep.respond
  split
  · exact h
  · exact h

theorem answerFxp_sameStream (s : State) (o : Option Word64) : SameStream s (s.answerFxp o) := by
  cases o with
  | none => exact ⟨rfl, rfl⟩
  | some bits => exact ⟨rfl, rfl⟩

theorem ctxEncode_sameStream (s : State) (p : Profile) : SameStream s (s.ctxEncode p) := by
  unfold State.ctxEncode
  split
  · exact ⟨rfl, rfl⟩
  · exact ⟨rfl, rfl⟩

theorem answerTime_sameStream (s : State) (o : Option Timestamp) : SameStream s (s.answerTime o) := by
  cases o with
  | none => exact ⟨rfl, rfl⟩
  | some t => exact ⟨rfl, rfl⟩

theorem resetTime_sameStream (s : State) (full : Word32) (frac : Word64) : SameStream s (s.resetTime full frac) := by
  rcases resetTime_cases s full frac with ⟨-, h⟩ | ⟨-, h⟩ <;> rw [h]
  · exact ⟨rfl, rfl⟩
  · exact ⟨rfl, rfl⟩

theorem enterRun_sameStream (s : State) : SameStream s s.enterRun := by
  cases hd : s.isSource with
  | true =>
    rw [enterRun_of_source hd]
    exact ⟨rfl, rfl⟩
  | false =>
    rw [enterRun_of_sink hd]
    exact ⟨rfl, rfl⟩

/-- Only SOFT_RESET, REG_WRITE and TX_PUSH write the configuration or the egress stream. -/
theorem exec_sameStream {i : Instr} (hreset : i ≠ .softReset) (hwrite : ∀ a, i ≠ .regWrite a) (hpush : i ≠ .txPush)
    (s : State) : ∃ t, exec i s = .next t ∧ SameStream s t := by
  have hrefuse (c : RefusalCode) : SameStream s (s.refuse c) := ⟨rfl, rfl⟩
  have hoperands {α : Type} (o : Option α) {k : α → State} (hk : ∀ a, SameStream s (k a)) :
      SameStream s (withOperands o s k) := withOperands_elim hrefuse hk
  have hite {p : Prop} [Decidable p] {t u : State} (ht : SameStream s t) (hu : SameStream s u) :
      SameStream s (if p then t else u) := ite_elim (fun _ => ht) fun _ => hu
  have hrx (u : List Byte) (req : Nat) : SameStream s (rxStep s u req).respond :=
    respond_sameStream (rxStep_frame s u req).sameStream
  cases i with
  | softReset => exact absurd rfl hreset
  | regWrite a => exact absurd rfl (hwrite a)
  | txPush => exact absurd rfl hpush
  | regRead a =>
    obtain ⟨r, he⟩ := exec_regRead_eq_answered a s
    exact ⟨_, he, rfl, rfl⟩
  | start =>
    refine ⟨_, rfl, whenAdmitted_elim hrefuse fun _ => ?_⟩
    split
    · exact ⟨rfl, rfl⟩
    · exact enterRun_sameStream s
  | fxpDecode | hdrDecode | sidEncode =>
    exact ⟨_, rfl, whenAdmitted_elim hrefuse fun _ => hoperands _ fun _ => ⟨rfl, rfl⟩⟩
  | hdrEncode | sidDecode | txSetStatic | tcpRxBytes =>
    exact ⟨_, rfl, whenAdmitted_elim hrefuse fun _ => hoperands _ fun _ => hite ⟨rfl, rfl⟩ ⟨rfl, rfl⟩⟩
  | fxpEncode => exact ⟨_, rfl, whenAdmitted_elim hrefuse fun _ => hoperands _ fun _ => answerFxp_sameStream s _⟩
  | ctxEncodeAlt | ctxEncodeStd => exact ⟨_, rfl, whenAdmitted_elim hrefuse fun _ => ctxEncode_sameStream s _⟩
  | ctxDecode =>
    refine ⟨_, rfl, whenAdmitted_elim hrefuse fun _ => hoperands _ fun _ => ?_⟩
    split
    · exact ⟨rfl, rfl⟩
    · exact ⟨rfl, rfl⟩
  | tsAdvance =>
    exact ⟨_, rfl, whenAdmitted_elim hrefuse fun _ => hite ⟨rfl, rfl⟩ (answerTime_sameStream s _)⟩
  | tsReset | txSetTime =>
    exact ⟨_, rfl, whenAdmitted_elim hrefuse fun _ => hoperands _ fun _ => resetTime_sameStream s _ _⟩
  | tsTick | tcpRxDisconnect | txLinkDown | txLinkUp | transportFail =>
    exact ⟨_, rfl, whenAdmitted_elim hrefuse fun _ => ⟨rfl, rfl⟩⟩
  | rxUnit | udpRxDatagram => exact ⟨_, rfl, whenAdmitted_elim hrefuse fun _ => hoperands _ fun _ => hrx _ _⟩
  | tcpRxAccept => exact ⟨_, rfl, whenAdmitted_elim hrefuse fun _ => hite ⟨rfl, rfl⟩ ⟨rfl, rfl⟩⟩
  | tcpRxPoll =>
    exact ⟨_, rfl, whenAdmitted_elim hrefuse fun _ => hoperands _ fun _ =>
      hite ⟨rfl, rfl⟩ (pollLoop_sameStream _ _ _ s)⟩

/-- The configuration has not changed, and the egress stream has not lost a packet. -/
def GrowsStream (s t : State) : Prop := t.cfg = s.cfg ∧ ∃ ps, t.egress = s.egress ++ ps

theorem SameStream.grows {s t : State} (h : SameStream s t) : GrowsStream s t :=
  ⟨h.1, [], h.2.trans (List.append_nil _).symm⟩

/-- The loop of TX_PUSH keeps the configuration and only appends to the egress stream (R260, R264). -/
theorem pushLoop_growsStream (batch : List Sample) (c k : Nat) (s : State) :
    GrowsStream s (pushLoop batch c k s) := by
  induction batch generalizing c k s with
  | nil => exact SameStream.grows ⟨rfl, rfl⟩
  | cons p rest ih =>
    by_cases hfull : s.txAccCount + 1 = s.cfg.spp
    · rcases emitPackets_cases (s.takeSample p) with ⟨-, he⟩ | ⟨r, ps, d, n, hr, he⟩
      · rw [pushLoop_failed hfull he]
        exact SameStream.grows ⟨rfl, rfl⟩
      · have hrs : SameStream s r := by rcases hr with rfl | rfl <;> exact ⟨rfl, rfl⟩
        rcases he with he | ⟨j, he⟩
        · rw [pushLoop_failed hfull he]
          exact ⟨hrs.1, ps, by simp [hrs.2]⟩
        · rw [pushLoop_sent hfull he]
          obtain ⟨hcfg, qs, hq⟩ := ih (c + 1) (k + j) (r.sends ps d n).dataSent
          exact ⟨hcfg.trans hrs.1, ps ++ qs, by simp [hq, hrs.2]⟩
    · rw [pushLoop_take hfull]
      exact ih _ _ _

theorem exec_txPush_growsStream (s : State) : ∃ t, exec .txPush s = .next t ∧ GrowsStream s t := by
  have hrefuse (c : RefusalCode) : GrowsStream s (s.refuse c) := SameStream.grows ⟨rfl, rfl⟩
  exact ⟨_, rfl, whenAdmitted_elim hrefuse fun _ => withOperands_elim hrefuse fun batch =>
    ite_elim (fun _ => hrefuse _) fun _ =>
      ite_elim (fun _ => SameStream.grows ⟨rfl, rfl⟩) fun _ => pushLoop_growsStream batch 0 0 s⟩

/-- REG_WRITE sends nothing, and writes the configuration in CONFIG only (R115, R360). -/
theorem exec_regWrite_stream (a : RegAddr) (s : State) :
    ∃ t, exec (.regWrite a) s = .next t ∧ t.egress = s.egress ∧ (s.phase ≠ .config → t.cfg = s.cfg) := by
  refine ⟨_, rfl, whenAdmitted_elim (P := fun t => t.egress = s.egress ∧ (s.phase ≠ .config → t.cfg = s.cfg))
    (fun c => ⟨rfl, fun _ => rfl⟩) fun hcheck => ?_⟩
  have hconfig : s.phase = .config := beq_iff_eq.mp (admitted_of_check hcheck).1
  refine ⟨?_, fun hs => absurd hconfig hs⟩
  split
  · rfl
  · rfl
  · exact withOperands_elim (P := fun t => t.egress = s.egress) (fun _ => rfl) fun v =>
      ite_elim (P := fun t => t.egress = s.egress) (fun _ => rfl) fun _ => rfl

/-- Settles O8: REG_WRITE is admitted in CONFIG only, SOFT_RESET is the exception, and no other command writes the
configuration. -/
theorem configurationIsFixedAfterStart : Obligations.ConfigurationIsFixedAfterStart := by
  intro s t hs h
  rcases step_cases h with ⟨-, rfl⟩ | ⟨c, rest, hq, rfl | ⟨i, hi, he⟩⟩
  · exact .inl rfl
  · exact .inl rfl
  by_cases hreset : i = .softReset
  · exact .inr ⟨c, rest, hq, hreset ▸ hi⟩
  left
  by_cases hwrite : ∃ a, i = .regWrite a
  · obtain ⟨a, rfl⟩ := hwrite
    obtain ⟨u, hu, -, hcfg⟩ := exec_regWrite_stream a (s.take c rest)
    cases hu.symm.trans he
    exact hcfg hs
  by_cases hpush : i = .txPush
  · subst hpush
    obtain ⟨u, hu, hcfg, -⟩ := exec_txPush_growsStream (s.take c rest)
    cases hu.symm.trans he
    exact hcfg
  · obtain ⟨u, hu, hcfg, -⟩ := exec_sameStream hreset (not_exists.mp hwrite) hpush (s.take c rest)
    cases hu.symm.trans he
    exact hcfg

/-- Settles O9: only the loop of TX_PUSH sends, and SOFT_RESET keeps the egress stream. -/
theorem egressOnlyGrows : Obligations.EgressOnlyGrows := by
  intro i s t he
  have hsame (h : t.egress = s.egress) : ∃ ps, t.egress = s.egress ++ ps ∧ (i ≠ .txPush → ps = []) :=
    ⟨[], h.trans (List.append_nil _).symm, fun _ => rfl⟩
  by_cases hreset : i = .softReset
  · subst hreset
    cases (exec_softReset_eq s).symm.trans he
    exact hsame rfl
  by_cases hwrite : ∃ a, i = .regWrite a
  · obtain ⟨a, rfl⟩ := hwrite
    obtain ⟨u, hu, hegress, -⟩ := exec_regWrite_stream a s
    cases hu.symm.trans he
    exact hsame hegress
  by_cases hpush : i = .txPush
  · subst hpush
    obtain ⟨u, hu, -, ps, hps⟩ := exec_txPush_growsStream s
    cases hu.symm.trans he
    exact ⟨ps, hps, fun h => absurd rfl h⟩
  · obtain ⟨u, hu, -, hegress⟩ := exec_sameStream hreset (not_exists.mp hwrite) hpush s
    cases hu.symm.trans he
    exact hsame hegress

end Sys2Proof.Machine

/-! SUPPORT. The invariant of 10_state.md holds at reset and every step keeps it: one lemma for each operation that writes
a field of which the invariant speaks. -/

namespace Sys2Proof.Machine

open Sys2Proof

/-! ### Updates that the invariant does not see -/

/-- The invariant speaks of no counter of context packets or of packets since the reference, no receive record, no port and
no field of the model's own. -/
theorem Inv.of_unseen {s t : State} (h : Inv s)
    (ht : t = { s with
      ctxSeq := t.ctxSeq, tsPsr := t.tsPsr, rxLastSeq := t.rxLastSeq, rxLastStatic := t.rxLastStatic
      pending := t.pending, rxOutIndex := t.rxOutIndex, cmdq := t.cmdq, port := t.port, response := t.response
      events := t.events, egress := t.egress, sendDraws := t.sendDraws, sendCount := t.sendCount
      rxBufBytes := t.rxBufBytes }) : Inv t := by
  rw [ht]
  exact ⟨h.cfg, h.err, h.run, h.time, h.acc, h.static, h.seq, h.tcp, h.link⟩

theorem Inv.reply {s : State} (h : Inv s) (r : Response) (evs : List Event) : Inv (s.reply r evs) := h.of_unseen rfl

theorem Inv.refuse {s : State} (h : Inv s) (c : RefusalCode) : Inv (s.refuse c) := h.reply _ _

theorem Inv.ok {s : State} (h : Inv s) (v : Values) : Inv (s.ok v) := h.reply _ _

theorem Inv.tick {s : State} (h : Inv s) : Inv s.tick := h.of_unseen rfl

theorem Inv.take {s : State} (h : Inv s) (c : Command) (rest : List Command) : Inv (s.take c rest) := h.of_unseen rfl

/-! ### Reset -/

/-- Settles O12: every element's reset value meets its part of the invariant. -/
theorem resetMeetsTheInvariant : Obligations.ResetMeetsTheInvariant where
  cfg := ⟨fun r => by cases r <;> rfl, by decide⟩
  err := ⟨nofun, fun h => absurd rfl h⟩
  run := nofun
  time := (by decide : (0 : Nat) < picosPerSecond)
  acc := ⟨rfl, fun _ => rfl, nofun⟩
  static := rfl
  seq := rfl
  tcp := ⟨⟨rfl, rfl, rfl⟩, fun h => absurd rfl h⟩
  link := nofun

theorem inv_softReset (s : State) : Inv s.softReset := resetMeetsTheInvariant.of_unseen rfl

/-! ### Fatal errors -/

theorem FatalCode.code_ne_zero (c : FatalCode) : c.code ≠ 0 := by
  cases c with
  | proto c => cases c <;> decide
  | _ => decide

/-- The parts of the invariant that hold in the middle of a command too, where a full accumulator may stand and a fatal
error may be raised. -/
structure Sound (s : State) : Prop where
  /-- Reserved configuration bits and CFG_T0_FRAC. -/
  cfg : s.cfg.Legal
  /-- The time reference. -/
  time : s.TimeInv
  /-- The accumulator holds the counted samples. -/
  acc : s.txAcc.length = s.txAccCount.toNat * s.sampleSize
  /-- The static pattern. -/
  static : s.StaticInv
  /-- Sequence and packet count. -/
  seq : s.SeqInv
  /-- The TCP framing state. -/
  tcp : s.TcpInv
  /-- The egress link. -/
  link : s.LinkInv

theorem Inv.sound {s : State} (h : Inv s) : Sound s := ⟨h.cfg, h.time, h.acc.1, h.static, h.seq, h.tcp, h.link⟩

/-- A fatal error may be raised wherever these parts hold (R384). -/
theorem Sound.raiseFatal {s : State} (h : Sound s) (c : FatalCode) (evs : List Event) : Inv (s.raiseFatal c evs) where
  cfg := h.cfg
  err := ⟨fun _ => c.code_ne_zero, fun _ => rfl⟩
  run := nofun
  time := h.time
  acc := ⟨h.acc, nofun, nofun⟩
  static := h.static
  seq := h.seq
  tcp := ⟨h.tcp.1, fun hp => ⟨nofun, (h.tcp.2 hp).2⟩⟩
  link := fun hl => ⟨nofun, (h.link hl).2⟩

theorem Inv.raiseFatal {s : State} (h : Inv s) (c : FatalCode) (evs : List Event) : Inv (s.raiseFatal c evs) :=
  h.sound.raiseFatal c evs

/-! ### What CONFIG fixes -/

theorem Inv.errCode_of_config {s : State} (h : Inv s) (hs : s.phase ≠ .fault) : s.errCode = 0 :=
  not_not.mp (mt h.err.mpr hs)

theorem Inv.disconnected_of_config {s : State} (h : Inv s) (hs : s.phase = .config) : s.tcpPhase = .disconnected :=
  not_not.mp fun hp => (h.tcp.2 hp).1 hs

theorem Inv.linkUp_of_config {s : State} (h : Inv s) (hs : s.phase = .config) : s.linkUp = true :=
  Bool.not_eq_false _ ▸ fun hl => (h.link hl).1 hs

theorem Inv.txAcc_of_config {s : State} (h : Inv s) (hs : s.phase = .config) : s.txAccCount = 0 ∧ s.txAcc = [] := by
  have hcount := h.acc.2.1 hs
  refine ⟨hcount, List.eq_nil_of_length_eq_zero ?_⟩
  rw [h.acc.1, hcount]
  exact Nat.zero_mul _

/-! ### Control -/

/-- A write that REG_WRITE accepts keeps the reserved bits 0 and CFG_T0_FRAC legal (R44, R60). -/
theorem CfgRegs.Legal.set {c : CfgRegs} (h : c.Legal) {r : CfgReg} {v : Word64} (hv : LegalWrite r.row v) :
    (c.set r v).Legal := by
  obtain ⟨hwidth, hmask, hfrac⟩ := hv
  have hget (q : CfgReg) : (c.set r v).get q = if q = r then v else c.get q := by
    split
    · next hq =>
      rw [hq]
      exact c.get_set_same hwidth
    · next hq => exact c.get_set_other hq v
  constructor
  · intro q
    rw [hget]
    split
    · next hq => exact hq ▸ hmask
    · exact h.1 q
  · have ht0 : (c.set r v).t0Frac = if .t0Frac = r then v else c.t0Frac := hget .t0Frac
    rw [ht0]
    split
    · next hr => exact hfrac (r.addr_eq_t0Frac_iff.mpr hr.symm)
    · exact h.2

/-- In CONFIG the configuration may be replaced by any legal one: nothing else of the invariant leans on it there. -/
theorem Inv.setCfg {s : State} (h : Inv s) (hs : s.phase = .config) {c : CfgRegs} (hc : c.Legal) :
    Inv { s with cfg := c } where
  cfg := hc
  err := h.err
  run := fun hr => nomatch hs.symm.trans hr
  time := h.time
  acc := by
    obtain ⟨hcount, hacc⟩ := h.txAcc_of_config hs
    refine ⟨?_, fun _ => hcount, fun hr => nomatch hs.symm.trans hr⟩
    change s.txAcc.length = s.txAccCount.toNat * _
    rw [hcount, hacc]
    exact (Nat.zero_mul _).symm
  static := h.static
  seq := h.seq
  tcp := ⟨h.tcp.1, fun hp => absurd (h.disconnected_of_config hs) hp⟩
  link := fun hl => absurd hs (h.link hl).1

/-- A checked sink has at least two samples in a packet (R47). -/
theorem spp_pos_of_startCheck {s : State} (h : startCheck s = none) (hd : s.isSource = false) : 0 < s.cfg.spp.toNat := by
  by_cases hdepth : s.cfg.bitDepth ≠ 8 ∧ s.cfg.bitDepth ≠ 16
  · exact nomatch (startCheck_of_badDepth hdepth).symm.trans h
  · rw [startCheck_of_sink hdepth hd] at h
    by_contra hzero
    have hbad : (!sppLegal s.depth s.cfg.spp.toNat) = true := by
      rw [sppLegal_not_iff (bitDepth_of_not_bad hdepth)]
      omega
    rw [if_pos hbad] at h
    cases h

/-- The static pattern of a legal configuration is positioned: bits 19:0 of CFG_DATA_STATIC are reserved (R52, R68). -/
theorem CfgRegs.Legal.dataStatic {c : CfgRegs} (h : c.Legal) : c.dataStatic.extractLsb' 0 20 = 0 := by
  have hmask : c.dataStatic.setWidth 64 &&& 0x000FFFFF = 0 := h.1 .dataStatic
  have hlow : c.dataStatic.toNat % 2 ^ 20 = 0 := by
    have hnat := congrArg BitVec.toNat hmask
    rw [BitVec.toNat_and, BitVec.toNat_setWidth_of_le (by decide)] at hnat
    exact (Nat.and_two_pow_sub_one_eq_mod _ 20).symm.trans hnat
  exact beq_iff_eq.mp ((staticPositioned_iff _).mpr hlow)

/-- Entering RUN with a configuration that passes the checks (R364). -/
theorem Inv.enterRun {s : State} (h : Inv s) (hs : s.phase = .config) (hcheck : startCheck s = none) :
    Inv s.enterRun := by
  obtain ⟨hcount, hacc⟩ := h.txAcc_of_config hs
  have herr := h.errCode_of_config (hs ▸ nofun)
  have hdisconnected := h.disconnected_of_config hs
  have hlink := h.linkUp_of_config hs
  cases hd : s.isSource with
  | true =>
    rw [enterRun_of_source hd]
    exact
      { cfg := h.cfg
        err := ⟨nofun, fun he => absurd herr he⟩
        run := fun _ => hcheck
        time := h.time
        acc := ⟨h.acc.1, nofun, fun _ hsink => nomatch hd.symm.trans hsink⟩
        static := h.static
        seq := h.seq
        tcp := ⟨h.tcp.1, fun hp => absurd hdisconnected hp⟩
        link := fun hl => nomatch hlink.symm.trans hl }
  | false =>
    rw [enterRun_of_sink hd]
    exact
      { cfg := h.cfg
        err := ⟨nofun, fun he => absurd herr he⟩
        run := fun _ => hcheck
        time := h.cfg.2
        acc := ⟨h.acc.1, nofun, fun _ _ => hcount ▸ spp_pos_of_startCheck hcheck hd⟩
        static := h.cfg.dataStatic
        seq := h.seq
        tcp := ⟨h.tcp.1, fun hp => absurd hdisconnected hp⟩
        link := fun hl => nomatch hlink.symm.trans hl }

/-! ### Time and static pattern -/

theorem Inv.setTime {s : State} (h : Inv s) (full : Word32) {frac : Word64} (hf : frac.toNat < picosPerSecond) :
    Inv (s.setTime full frac) :=
  ⟨h.cfg, h.err, h.run, hf, h.acc, h.static, h.seq, h.tcp, h.link⟩

theorem Inv.resetTime {s : State} (h : Inv s) (full : Word32) (frac : Word64) : Inv (s.resetTime full frac) := by
  rcases resetTime_cases s full frac with ⟨-, he⟩ | ⟨hf, he⟩ <;> rw [he]
  · exact h.refuse _
  · exact (h.setTime full hf).ok _

theorem Inv.setStatic {s : State} (h : Inv s) {w : Word32} (hw : staticPositioned w = true) :
    Inv { s with txStatic := w } :=
  ⟨h.cfg, h.err, h.run, h.time, h.acc, beq_iff_eq.mp hw, h.seq, h.tcp, h.link⟩

/-! ### The loop of TX_PUSH -/

/-- A state in which TX_PUSH takes samples: a sound one with room in the accumulator for at least one more. -/
structure Pushing (s : State) : Prop where
  /-- The invariant between two samples. -/
  inv : Inv s
  /-- TX_PUSH is admitted in RUN (R149). -/
  phase : s.phase = .run
  /-- TX_PUSH is admitted in the sink (R149). -/
  sink : s.isSource = false

theorem Pushing.lt {s : State} (h : Pushing s) : s.txAccCount.toNat < s.cfg.spp.toNat :=
  h.inv.acc.2.2 h.phase h.sink

theorem Pushing.count_succ {s : State} (h : Pushing s) : (s.txAccCount + 1).toNat = s.txAccCount.toNat + 1 := by
  have hlt := h.lt
  have hspp := s.cfg.spp.isLt
  have hone : (1 : Word32).toNat = 1 := rfl
  rw [BitVec.toNat_add, hone]
  omega

theorem Pushing.takeSample_sound {s : State} (h : Pushing s) (p : Sample) : Sound (s.takeSample p) where
  cfg := h.inv.cfg
  time := h.inv.time
  acc := by
    have hlen := h.inv.acc.1
    change (s.txAcc.take (s.txAccCount.toNat * s.sampleSize) ++ sampleBytes s.depth p).length
      = (s.txAccCount + 1).toNat * s.sampleSize
    rw [h.count_succ, ← hlen, List.take_length, List.length_append, sampleBytes_length, hlen, Nat.add_mul, Nat.one_mul]
    rfl
  static := h.inv.static
  seq := h.inv.seq
  tcp := h.inv.tcp
  link := h.inv.link

/-- A sample that leaves the packet incomplete leaves room for another (R67). -/
theorem Pushing.takeSample {s : State} (h : Pushing s) (p : Sample) (hroom : s.txAccCount + 1 ≠ s.cfg.spp) :
    Pushing (s.takeSample p) := by
  have hsound := h.takeSample_sound p
  have hlt : (s.txAccCount + 1).toNat < s.cfg.spp.toNat := by
    have hne : (s.txAccCount + 1).toNat ≠ s.cfg.spp.toNat := fun he => hroom (BitVec.eq_of_toNat_eq he)
    have hlt := h.lt
    rw [h.count_succ] at hne ⊢
    omega
  refine ⟨⟨hsound.cfg, h.inv.err, h.inv.run, hsound.time, ⟨hsound.acc, fun hc => ?_, fun _ _ => hlt⟩, hsound.static,
    hsound.seq, hsound.tcp, hsound.link⟩, h.phase, h.sink⟩
  exact nomatch h.phase.symm.trans hc

theorem Sound.sends {s : State} (h : Sound s) (ps : List (List Byte)) (d : List Bool) (n : Nat) :
    Sound (s.sends ps d n) :=
  ⟨h.cfg, h.time, h.acc, h.static, h.seq, h.tcp, h.link⟩

theorem Sound.contextSent {s : State} (h : Sound s) : Sound s.contextSent :=
  ⟨h.cfg, h.time, h.acc, h.static, h.seq, h.tcp, h.link⟩

/-- A packet sent empties the accumulator and moves sequence and packet count together (R262, R266). -/
theorem Pushing.dataSent {s t : State} (h : Pushing s) (ht : Sound t) (hphase : t.phase = s.phase)
    (herr : t.errCode = s.errCode) (hcfg : t.cfg = s.cfg) : Pushing t.dataSent := by
  have hsink : t.isSource = false := (State.isSource_congr hcfg).trans h.sink
  have hcheck : startCheck t = none := (startCheck_congr hcfg).trans (h.inv.run h.phase)
  have hrun : t.phase = .run := hphase.trans h.phase
  refine ⟨⟨ht.cfg, ?_, fun _ => hcheck, ht.time, ⟨(Nat.zero_mul _).symm, fun _ => rfl, fun _ _ => ?_⟩, ht.static, ?_,
    ht.tcp, ht.link⟩, hrun, hsink⟩
  · change t.phase = .fault ↔ t.errCode ≠ 0
    rw [hphase, herr]
    exact h.inv.err
  · exact spp_pos_of_startCheck hcheck hsink
  · have hseq : t.txSeq.toNat = t.txPacketCount.toNat % 16 := ht.seq
    change (t.txSeq + 1).toNat = (t.txPacketCount + 1).toNat % 16
    have hone : (1 : BitVec 4).toNat = 1 ∧ (1 : Word64).toNat = 1 := ⟨rfl, rfl⟩
    rw [BitVec.toNat_add, BitVec.toNat_add, hseq, hone.1, hone.2]
    omega

theorem Pushing.pushLoop {s : State} (h : Pushing s) (batch : List Sample) (c k : Nat) : Inv (pushLoop batch c k s) := by
  induction batch generalizing c k s with
  | nil => exact h.inv.ok _
  | cons p rest ih =>
    by_cases hfull : s.txAccCount + 1 = s.cfg.spp
    · have hsound := h.takeSample_sound p
      rcases emitPackets_cases (s.takeSample p) with ⟨-, he⟩ | ⟨r, ps, d, n, rfl | rfl, he | ⟨j, he⟩⟩
      · rw [pushLoop_failed hfull he]
        exact hsound.raiseFatal _ _
      · rw [pushLoop_failed hfull he]
        exact (hsound.sends ps d n).raiseFatal _ _
      · rw [pushLoop_sent hfull he]
        exact ih (h.dataSent (hsound.sends ps d n) rfl rfl rfl) _ _
      · rw [pushLoop_failed hfull he]
        exact (hsound.contextSent.sends ps d n).raiseFatal _ _
      · rw [pushLoop_sent hfull he]
        exact ih (h.dataSent (hsound.contextSent.sends ps d n) rfl rfl rfl) _ _
    · rw [pushLoop_take hfull]
      exact ih (h.takeSample p hfull) _ _

/-! ### Receiving -/

theorem mismatch_timeInv {s : State} (h : s.TimeInv) (c : ProtoCode) (fwd : Bool) (len : Nat)
    {k : List Event → RxStep} (hk : ∀ evs, (k evs).st.TimeInv) : (mismatch s c fwd len k).st.TimeInv := by
  rcases mismatch_cases s c fwd len k with ⟨-, he⟩ | ⟨-, he⟩ | ⟨-, -, he⟩ | ⟨-, -, he⟩ | ⟨-, he⟩ <;> rw [he]
  · exact h
  · exact h
  · exact hk _
  · exact h
  · exact h

/-- A context packet sets the reference to a legal timestamp only (R304, R308). -/
theorem ctxAccept_timeInv {s : State} (h : s.TimeInv) (c : Context) (len : Nat) (evs : List Event) :
    (ctxAccept s c len evs).st.TimeInv := by
  unfold ctxAccept
  split
  · exact h
  · split
    · next hf => exact hf
    · exact h

theorem rxStep_timeInv {s : State} (h : s.TimeInv) (u : List Byte) (req : Nat) : (rxStep s u req).st.TimeInv := by
  unfold rxStep
  split
  · exact mismatch_timeInv h _ _ _ fun _ => h
  · dsimp only
    split
    · unfold rxData
      split
      · exact mismatch_timeInv h _ _ _ fun _ => h
      · split
        · exact mismatch_timeInv h _ _ _ fun _ => h
        · exact h
    · unfold rxContext
      split
      · exact mismatch_timeInv h _ _ _ fun _ => h
      · split
        · exact mismatch_timeInv h _ _ _ fun _ => ctxAccept_timeInv h _ _ _
        · exact ctxAccept_timeInv h _ _ _

/-- A receive step keeps the invariant: of what it may write, the invariant speaks of the time reference alone. -/
theorem Inv.rxStep {s : State} (h : Inv s) (u : List Byte) (req : Nat) : Inv (rxStep s u req).st := by
  have htime := rxStep_timeInv h.time u req
  obtain ⟨_, _, _, _, _, _, hst⟩ := (rxStep_frame s u req).same
  rw [hst] at htime ⊢
  exact ⟨h.cfg, h.err, h.run, htime, h.acc, h.static, h.seq, h.tcp, h.link⟩

theorem Inv.respond {r : RxStep} (h : Inv r.st) : Inv r.respond := by
  unfold RxStep.respond
  split
  · exact h.raiseFatal _ _
  · exact h.reply _ _

/-! ### TCP framing -/

theorem Inv.setTcp {s : State} (h : Inv s) {a b : List Byte} {n : Word32} {p : TcpPhase}
    (ht : State.TcpInv { s with tcpIn := a, tcpBuf := b, tcpNeed := n, tcpPhase := p }) :
    Inv { s with tcpIn := a, tcpBuf := b, tcpNeed := n, tcpPhase := p } :=
  ⟨h.cfg, h.err, h.run, h.time, h.acc, h.static, h.seq, ht, h.link⟩

/-- With a client the engine is a TCP source in RUN or after it. -/
def State.Connectable (s : State) : Prop := s.phase ≠ .config ∧ s.isSource = true ∧ s.isTcp = true

theorem Inv.clearTcp_disconnected {s : State} (h : Inv s) : Inv (s.clearTcp .disconnected) :=
  h.setTcp ⟨⟨rfl, rfl, rfl⟩, fun hp => absurd rfl hp⟩

theorem Inv.clearTcp_header {s : State} (h : Inv s) (hc : s.Connectable) : Inv (s.clearTcp .header) :=
  h.setTcp ⟨⟨Nat.zero_lt_succ 3, rfl⟩, fun _ => hc⟩

theorem Inv.appendTcp {s : State} (h : Inv s) (hp : s.tcpPhase ≠ .disconnected) (chunk : List Byte) :
    Inv { s with tcpIn := s.tcpIn ++ chunk } := by
  refine h.setTcp (p := s.tcpPhase) (n := s.tcpNeed) (b := s.tcpBuf) ⟨?_, fun hp => h.tcp.2 hp⟩
  have htcp := h.tcp.1
  cases hq : s.tcpPhase with
  | disconnected => exact absurd hq hp
  | header =>
    rw [hq] at htcp
    exact htcp
  | body =>
    rw [hq] at htcp
    exact htcp

/-- What a connected state holds before a unit is framed (R85, R86). -/
theorem Inv.framing {s : State} (h : Inv s) (hp : s.tcpPhase ≠ .disconnected) :
    (s.tcpPhase = .header ∧ s.tcpBuf.length < 4 ∧ s.tcpNeed = 0) ∨
      (s.tcpPhase = .body ∧ 4 ≤ s.tcpBuf.length ∧ s.tcpNeed.toNat ≤ 262140 ∧ s.tcpNeed.toNat % 4 = 0) := by
  have htcp := h.tcp.1
  cases hq : s.tcpPhase with
  | disconnected => exact absurd hq hp
  | header =>
    rw [hq] at htcp
    exact .inl ⟨rfl, htcp⟩
  | body =>
    rw [hq] at htcp
    obtain ⟨hlow, -, hhigh, hmod⟩ := htcp
    exact .inr ⟨rfl, hlow, hhigh, hmod⟩

/-- The invariant at the end of a framing, and the phase in which a whole unit leaves it. -/
def Framed.Keeps : Framed → Prop
  | .short t => Inv t
  | .badCount t => Inv (t.clearTcp .disconnected)
  | .whole t _ => Inv t ∧ t.tcpPhase = .header

theorem frameBody_keeps {s r : State} (h : Inv s) (hc : s.Connectable) {a b : List Byte} {n : Word32}
    (hr : r = { s with tcpIn := a, tcpBuf := b, tcpNeed := n, tcpPhase := .body }) (hlow : 4 ≤ b.length)
    (hhigh : n.toNat ≤ 262140) (hmod : n.toNat % 4 = 0) : (frameBody r).Keeps := by
  subst hr
  unfold frameBody
  dsimp only
  split
  · next hshort => exact h.setTcp ⟨⟨by simp; omega, hshort, hhigh, hmod⟩, fun _ => hc⟩
  · exact ⟨h.setTcp ⟨⟨Nat.zero_lt_succ 3, rfl⟩, fun _ => hc⟩, rfl⟩

theorem frameUnit_keeps {s : State} (h : Inv s) (hp : s.tcpPhase ≠ .disconnected) : (frameUnit s).Keeps := by
  have hc : s.Connectable := h.tcp.2 hp
  rcases h.framing hp with ⟨hheader, hbuf, hneed⟩ | ⟨hbody, hlow, hhigh, hmod⟩
  · simp only [frameUnit, hheader, if_true]
    split
    · next hshort =>
      refine h.setTcp (p := s.tcpPhase) (n := s.tcpNeed) ⟨?_, fun _ => hc⟩
      rw [hheader]
      exact ⟨hshort, hneed⟩
    · next hlong =>
      split
      · exact h.clearTcp_disconnected
      · have hwc := beRead_lt (s.fillTcp 4).tcpBuf 2 2
        refine frameBody_keeps h hc rfl (Nat.not_lt.mp hlong) ?_ ?_ <;> rw [BitVec.toNat_ofNat] <;> omega
  · have hne : s.tcpPhase ≠ .header := hbody ▸ nofun
    rw [frameUnit, if_neg hne]
    refine frameBody_keeps (a := s.tcpIn) h hc ?_ hlow hhigh hmod
    rw [← hbody]

/-- A poll keeps the invariant: while it goes on it holds a client (R334). -/
theorem Inv.tcpPoll {s : State} (h : Inv s) (req : Nat) : Inv (s.tcpPoll req) := by
  refine ite_elim (fun _ => h.reply _ _) fun hp => ?_
  refine pollLoop_elim (Q := fun t => Inv t ∧ t.tcpPhase ≠ .disconnected) (R := Inv) (fun t ht => ?_) (fun _ ht => ht.1)
    (fun _ _ _ ht => ht.reply _ _) (fun _ _ _ ht => ht.raiseFatal _ _) _ [] s ⟨h, hp⟩
  have hkeeps := frameUnit_keeps ht.1 ht.2
  cases hu : frameUnit t with
  | short u =>
    rw [hu] at hkeeps
    exact hkeeps
  | badCount u =>
    rw [hu] at hkeeps
    exact hkeeps
  | whole u unit =>
    rw [hu] at hkeeps
    obtain ⟨hinv, hheader⟩ := hkeeps
    obtain ⟨_, _, _, _, _, _, hst⟩ := (rxStep_frame u unit req).same
    refine ⟨hinv.rxStep unit req, ?_⟩
    rw [hst]
    exact hheader ▸ nofun

/-! ### Every command -/

theorem Inv.setLink {s : State} (h : Inv s) (b : Bool) (hc : s.phase ≠ .config ∧ s.isSource = false ∧ s.isTcp = true) :
    Inv { s with linkUp := b } :=
  ⟨h.cfg, h.err, h.run, h.time, h.acc, h.static, h.seq, h.tcp, fun _ => hc⟩

theorem phase_eq_run_of_beq {p : Phase} (h : (p == .run) = true) : p = .run := beq_iff_eq.mp h

theorem sourceTcp_of_check {s : State} (h : Admission.check .sourceTcp s = none) : s.Connectable := by
  obtain ⟨hp, hd⟩ := admitted_of_check h
  rw [Admission.directionOk, Bool.and_eq_true] at hd
  exact ⟨phase_eq_run_of_beq hp ▸ nofun, hd⟩

theorem sinkTcp_of_check {s : State} (h : Admission.check .sinkTcp s = none) :
    s.phase ≠ .config ∧ s.isSource = false ∧ s.isTcp = true := by
  obtain ⟨hp, hd⟩ := admitted_of_check h
  rw [Admission.directionOk, Bool.and_eq_true, Bool.not_eq_true'] at hd
  exact ⟨phase_eq_run_of_beq hp ▸ nofun, hd⟩

theorem Inv.pushing_of_check {s : State} (h : Inv s) (hcheck : Admission.check .sink s = none) : Pushing s := by
  obtain ⟨hp, hd⟩ := admitted_of_check hcheck
  rw [Admission.directionOk, Bool.not_eq_true'] at hd
  exact ⟨h, phase_eq_run_of_beq hp, hd⟩

theorem Inv.answerFxp {s : State} (h : Inv s) (o : Option Word64) : Inv (s.answerFxp o) := by
  cases o with
  | none => exact h.refuse _
  | some bits => exact h.ok _

theorem Inv.ctxEncode {s : State} (h : Inv s) (p : Profile) : Inv (s.ctxEncode p) := by
  unfold State.ctxEncode
  split
  · exact h.ok _
  · exact h.refuse _

theorem Inv.answerTime {s : State} (h : Inv s) (o : Option Timestamp) : Inv (s.answerTime o) := by
  cases o with
  | none => exact h.raiseFatal _ _
  | some t => exact h.ok _

theorem Inv.exec {s : State} (h : Inv s) (i : Instr) : ∃ t, exec i s = .next t ∧ Inv t := by
  have hoperands {α : Type} (o : Option α) {k : α → State} (hk : ∀ a, Inv (k a)) : Inv (withOperands o s k) :=
    withOperands_elim h.refuse hk
  cases i with
  | softReset => exact ⟨_, exec_softReset_eq s, (inv_softReset s).ok _⟩
  | regWrite a =>
    refine ⟨_, rfl, whenAdmitted_elim h.refuse fun hcheck => ?_⟩
    have hconfig : s.phase = .config := beq_iff_eq.mp (admitted_of_check hcheck).1
    split
    · exact h.refuse _
    · exact h.refuse _
    · next r _ =>
      exact hoperands _ fun v => ite_elim
        (fun hv => (h.setCfg hconfig (h.cfg.set ((r.accepts_iff v).mp hv))).ok _) fun _ => h.refuse _
  | regRead a =>
    obtain ⟨r, he⟩ := exec_regRead_eq_answered a s
    exact ⟨_, he, h.reply r []⟩
  | start =>
    refine ⟨_, rfl, whenAdmitted_elim h.refuse fun hcheck => ?_⟩
    have hconfig : s.phase = .config := beq_iff_eq.mp (admitted_of_check hcheck).1
    split
    · exact h.raiseFatal _ _
    · next hlegal => exact (h.enterRun hconfig hlegal).ok _
  | fxpDecode | hdrDecode | sidEncode =>
    exact ⟨_, rfl, whenAdmitted_elim h.refuse fun _ => hoperands _ fun _ => h.ok _⟩
  | hdrEncode | sidDecode =>
    exact ⟨_, rfl, whenAdmitted_elim h.refuse fun _ => hoperands _ fun _ =>
      ite_elim (fun _ => h.refuse _) fun _ => h.ok _⟩
  | fxpEncode => exact ⟨_, rfl, whenAdmitted_elim h.refuse fun _ => hoperands _ fun _ => h.answerFxp _⟩
  | ctxEncodeAlt | ctxEncodeStd => exact ⟨_, rfl, whenAdmitted_elim h.refuse fun _ => h.ctxEncode _⟩
  | ctxDecode =>
    refine ⟨_, rfl, whenAdmitted_elim h.refuse fun _ => hoperands _ fun _ => ?_⟩
    split
    · exact h.ok _
    · exact h.refuse _
  | tsAdvance =>
    exact ⟨_, rfl, whenAdmitted_elim h.refuse fun _ => ite_elim (fun _ => h.refuse _) fun _ => h.answerTime _⟩
  | tsReset | txSetTime => exact ⟨_, rfl, whenAdmitted_elim h.refuse fun _ => hoperands _ fun _ => h.resetTime _ _⟩
  | tsTick => exact ⟨_, rfl, whenAdmitted_elim h.refuse fun _ => h.tick.ok _⟩
  | txPush =>
    exact ⟨_, rfl, whenAdmitted_elim h.refuse fun hcheck => hoperands _ fun batch =>
      ite_elim (fun _ => h.refuse _) fun _ =>
        ite_elim (fun _ => h.ok _) fun _ => (h.pushing_of_check hcheck).pushLoop batch 0 0⟩
  | txSetStatic =>
    exact ⟨_, rfl, whenAdmitted_elim h.refuse fun _ => hoperands _ fun _ =>
      ite_elim (fun _ => h.refuse _) fun hw => (h.setStatic (by simpa using hw)).ok _⟩
  | rxUnit | udpRxDatagram =>
    exact ⟨_, rfl, whenAdmitted_elim h.refuse fun _ => hoperands _ fun _ => (h.rxStep _ _).respond⟩
  | tcpRxAccept =>
    exact ⟨_, rfl, whenAdmitted_elim h.refuse fun hcheck =>
      ite_elim (fun _ => h.refuse _) fun _ => (h.clearTcp_header (sourceTcp_of_check hcheck)).ok _⟩
  | tcpRxBytes =>
    exact ⟨_, rfl, whenAdmitted_elim h.refuse fun _ => hoperands _ fun chunk =>
      ite_elim (fun _ => h.refuse _) fun hp => (h.appendTcp hp chunk).ok _⟩
  | tcpRxPoll => exact ⟨_, rfl, whenAdmitted_elim h.refuse fun _ => hoperands _ fun _ => h.tcpPoll _⟩
  | tcpRxDisconnect => exact ⟨_, rfl, whenAdmitted_elim h.refuse fun _ => h.clearTcp_disconnected.ok _⟩
  | txLinkDown | txLinkUp =>
    exact ⟨_, rfl, whenAdmitted_elim h.refuse fun hcheck => (h.setLink _ (sinkTcp_of_check hcheck)).ok _⟩
  | transportFail => exact ⟨_, rfl, whenAdmitted_elim h.refuse fun _ => h.raiseFatal _ _⟩

/-- Settles O13: a step holds the state, refuses a word, or performs a command, and each keeps the invariant. -/
theorem everyStepKeepsTheInvariant : Obligations.EveryStepKeepsTheInvariant := by
  intro s t h hstep
  rcases step_cases hstep with ⟨-, rfl⟩ | ⟨c, rest, -, rfl | ⟨i, -, he⟩⟩
  · exact h
  · exact (h.take c rest).refuse _
  · obtain ⟨u, hu, hinv⟩ := (h.take c rest).exec i
    cases hu.symm.trans he
    exact hinv

end Sys2Proof.Machine

/-! SUPPORT. The binary64 arithmetic of 00_scope.md (R20): the finite values that are not negative as a strictly
increasing sequence of magnitudes, rounding as a search in it, and the values that are represented exactly. -/

namespace Sys2Proof.Machine

open Sys2Proof

theorem f64One_pos : 0 < f64One := by
  unfold f64One
  positivity

/-! ### The sequence of magnitudes -/

/-- The magnitude, in units of 2^-1074, of the value whose bit pattern is the number `k`, the sign bit clear. Above the
finite patterns it goes on as if the exponent had no end. -/
def gridMag (k : Nat) : Nat := if k < 2 ^ 52 then k else (2 ^ 52 + k % 2 ^ 52) * 2 ^ (k / 2 ^ 52 - 1)

/-- A significand `m` at an exponent `e` is the pattern `e * 2^52 + m`, also where `m` has rounded up to 2^53. -/
theorem gridMag_add {e m : Nat} (hm : m ≤ 2 ^ 53) (hnormal : e = 0 ∨ 2 ^ 52 ≤ m) :
    gridMag (e * 2 ^ 52 + m) = m * 2 ^ e := by
  rcases Nat.lt_or_ge m (2 ^ 52) with hlow | hlow
  · obtain rfl : e = 0 := by omega
    rw [gridMag, if_pos (by omega)]
    omega
  · rw [gridMag, if_neg (by omega)]
    rcases Nat.lt_or_ge m (2 ^ 53) with hlt | hge
    · have hdiv : (e * 2 ^ 52 + m) / 2 ^ 52 - 1 = e := by omega
      have hmod : 2 ^ 52 + (e * 2 ^ 52 + m) % 2 ^ 52 = m := by omega
      rw [hdiv, hmod]
    · obtain rfl : m = 2 ^ 53 := by omega
      have hdiv : (e * 2 ^ 52 + 2 ^ 53) / 2 ^ 52 - 1 = e + 1 := by omega
      have hmod : 2 ^ 52 + (e * 2 ^ 52 + 2 ^ 53) % 2 ^ 52 = 2 ^ 52 := by omega
      rw [hdiv, hmod, pow_succ 2 e]
      ring

/-- Every pattern is a significand below 2^53 at an exponent, a normal one above the least exponent. -/
theorem exists_significand (k : Nat) : ∃ e m, k = e * 2 ^ 52 + m ∧ m < 2 ^ 53 ∧ (e = 0 ∨ 2 ^ 52 ≤ m) := by
  rcases Nat.lt_or_ge k (2 ^ 53) with hlt | hge
  · exact ⟨0, k, by omega, hlt, .inl rfl⟩
  · exact ⟨k / 2 ^ 52 - 1, 2 ^ 52 + k % 2 ^ 52, by omega, by omega, .inr (by omega)⟩

theorem gridMag_strictMono : StrictMono gridMag := by
  refine strictMono_nat_of_lt_succ fun k => ?_
  obtain ⟨e, m, rfl, hm, hnormal⟩ := exists_significand k
  rw [gridMag_add hm.le hnormal, Nat.add_assoc, gridMag_add hm (hnormal.imp_right Nat.le_succ_of_le)]
  exact Nat.mul_lt_mul_of_pos_right m.lt_succ_self (Nat.two_pow_pos e)

theorem gridMag_mul_lt {d a b : Nat} (hd : 0 < d) (h : a < b) : gridMag a * d < gridMag b * d :=
  Nat.mul_lt_mul_of_pos_right (gridMag_strictMono h) hd

theorem gridMag_mul_le {a b : Nat} (d : Nat) (h : a ≤ b) : gridMag a * d ≤ gridMag b * d :=
  Nat.mul_le_mul_right d (gridMag_strictMono.monotone h)

/-! ### Rounding as a search -/

/-- The bit pattern to which the rational `x / d`, in units of 2^-1074, rounds, before it is cut off at +∞. -/
def roundPattern (x d : Nat) : Nat :=
  let e := (x / d).log2 - 52
  let den := d * 2 ^ e
  let q := x / den
  let r := x % den
  e * 2 ^ 52 + if den < 2 * r ∨ (2 * r = den ∧ q % 2 = 1) then q + 1 else q

theorem f64OfRatio_eq (n d : Nat) :
    f64OfRatio n d = BitVec.ofNat 64 (min (roundPattern (n * f64One) d) f64Inf.toNat) := rfl

/-- Whether `x / d` is above the midpoint of the pattern `j` and the next, or on it where `j` is odd. -/
def AboveMidpoint (x d j : Nat) : Prop :=
  (gridMag j + gridMag (j + 1)) * d < 2 * x ∨ ((gridMag j + gridMag (j + 1)) * d = 2 * x ∧ j % 2 = 1)

/-- The truncated quotient at the exponent of the rounding is a significand: below 2^53, and normal above the least
exponent. -/
theorem quotient_isSignificand (x d : Nat) :
    x / (d * 2 ^ ((x / d).log2 - 52)) < 2 ^ 53 ∧
      ((x / d).log2 - 52 = 0 ∨ 2 ^ 52 ≤ x / (d * 2 ^ ((x / d).log2 - 52))) := by
  rw [← Nat.div_div_eq_div_mul]
  generalize x / d = y
  have hupper : y < 2 ^ (y.log2 + 1) := Nat.lt_log2_self
  constructor
  · rw [Nat.div_lt_iff_lt_mul (Nat.two_pow_pos _), ← pow_add]
    exact hupper.trans_le (Nat.pow_le_pow_right (by decide) (by omega))
  · by_cases hzero : y.log2 - 52 = 0
    · exact .inl hzero
    · right
      have hy : y ≠ 0 := by rintro rfl; simp at hzero
      rw [Nat.le_div_iff_mul_le (Nat.two_pow_pos _), ← pow_add]
      exact (Nat.pow_le_pow_right (by decide) (by omega)).trans (Nat.log2_self_le hy)

/-- Rounding to nearest, ties to even, counts the midpoints below (R20). -/
theorem lt_roundPattern_iff {d : Nat} (hd : 0 < d) (x j : Nat) : j < roundPattern x d ↔ AboveMidpoint x d j := by
  obtain ⟨hq, hnormal⟩ := quotient_isSignificand x d
  rw [roundPattern]
  generalize (x / d).log2 - 52 = e at hq hnormal ⊢
  have hpos : 0 < d * 2 ^ e := Nat.mul_pos hd (Nat.two_pow_pos e)
  have hx := Nat.div_add_mod x (d * 2 ^ e)
  have hr := Nat.mod_lt x hpos
  generalize x / (d * 2 ^ e) = q at hq hnormal hx ⊢
  generalize x % (d * 2 ^ e) = r at hx hr ⊢
  have hlow : gridMag (e * 2 ^ 52 + q) * d = d * 2 ^ e * q := by rw [gridMag_add hq.le hnormal]; ring
  have hhigh : gridMag (e * 2 ^ 52 + q + 1) * d = d * 2 ^ e * q + d * 2 ^ e := by
    rw [Nat.add_assoc, gridMag_add (m := q + 1) hq (hnormal.imp_right Nat.le_succ_of_le)]
    ring
  have hparity : (e * 2 ^ 52 + q) % 2 = q % 2 := by omega
  rw [AboveMidpoint, Nat.add_mul]
  rcases Nat.lt_trichotomy j (e * 2 ^ 52 + q) with hj | rfl | hj
  · have h1 := gridMag_mul_lt hd hj
    have h2 := gridMag_mul_le d (show j + 1 ≤ e * 2 ^ 52 + q from hj)
    split <;> omega
  · rw [hlow, hhigh, hparity]
    split <;> omega
  · have h1 := gridMag_mul_le d (show e * 2 ^ 52 + q + 1 ≤ j from hj)
    have h2 := gridMag_mul_lt hd (Nat.add_lt_add_right hj 1)
    split <;> omega

/-- Numerator and denominator may be scaled together. -/
theorem roundPattern_mul_right {d c : Nat} (hd : 0 < d) (hc : 0 < c) (x : Nat) :
    roundPattern (x * c) (d * c) = roundPattern x d := by
  refine eq_of_forall_lt_iff fun j => ?_
  rw [lt_roundPattern_iff (Nat.mul_pos hd hc), lt_roundPattern_iff hd, AboveMidpoint, AboveMidpoint, ← Nat.mul_assoc,
    ← Nat.mul_assoc, Nat.mul_lt_mul_right hc, Nat.mul_left_inj (Nat.pos_iff_ne_zero.mp hc)]

/-- A value of the sequence is its own rounding. -/
theorem roundPattern_gridMag {d : Nat} (hd : 0 < d) (j : Nat) : roundPattern (gridMag j * d) d = j := by
  refine eq_of_forall_lt_iff fun i => ?_
  rw [lt_roundPattern_iff hd, AboveMidpoint, Nat.add_mul]
  rcases Nat.lt_or_ge i j with hi | hi
  · have h1 := gridMag_mul_lt hd hi
    have h2 := gridMag_mul_le d (show i + 1 ≤ j from hi)
    omega
  · have h1 := gridMag_mul_le d hi
    have h2 := gridMag_mul_lt hd (show j < i + 1 by omega)
    omega

/-- No value of the sequence is nearer than the rounding, and one that is as near has an odd pattern while the rounding's
is even (R20). -/
theorem roundPattern_nearest {d : Nat} (hd : 0 < d) (x j : Nat) :
    let off := fun k => ((gridMag k * d : Nat) : Int) - (x : Int)
    (off (roundPattern x d)).natAbs ≤ (off j).natAbs ∧
      ((off (roundPattern x d)).natAbs = (off j).natAbs → j ≠ roundPattern x d →
        roundPattern x d % 2 = 0 ∧ j % 2 = 1) := by
  intro off
  have hmidpoint := fun i => lt_roundPattern_iff hd x i
  simp only [AboveMidpoint, Nat.add_mul] at hmidpoint
  generalize roundPattern x d = k at hmidpoint ⊢
  simp only [off]
  rcases Nat.lt_trichotomy j k with hj | rfl | hj
  · obtain ⟨i, rfl⟩ : ∃ i, k = i + 1 := ⟨k - 1, by omega⟩
    have habove := (hmidpoint i).mp i.lt_succ_self
    have hjk := gridMag_mul_lt hd hj
    rcases Nat.lt_or_ge j i with hi | hi
    · have hji := gridMag_mul_lt hd hi
      omega
    · obtain rfl : j = i := by omega
      omega
  · exact ⟨le_rfl, fun _ hne => absurd rfl hne⟩
  · have hbelow := mt (hmidpoint k).mpr (Nat.lt_irrefl k)
    have hkj := gridMag_mul_lt hd hj
    rcases Nat.lt_or_ge (k + 1) j with hi | hi
    · have hij := gridMag_mul_lt hd hi
      omega
    · obtain rfl : j = k + 1 := by omega
      omega

/-! ### Bit patterns -/

theorem f64Inf_toNat : f64Inf.toNat = 2047 * 2 ^ 52 := rfl

theorem f64Sign_eq_false_iff (v : Word64) : f64Sign v = false ↔ v.toNat < 2 ^ 63 := by
  have hv := v.isLt
  rw [f64Sign, ← BitVec.testBit_toNat, Nat.testBit_eq_decide_div_mod_eq, decide_eq_false_iff_not]
  omega

theorem f64Exp_of_pos {v : Word64} (h : f64Sign v = false) : f64Exp v = v.toNat / 2 ^ 52 := by
  rw [f64Sign_eq_false_iff] at h
  rw [f64Exp]
  omega

theorem f64Mag_of_pos {v : Word64} (h : f64Sign v = false) : f64Mag v = gridMag v.toNat := by
  rw [f64Mag, f64Exp_of_pos h, f64Frac, gridMag]
  by_cases hsmall : v.toNat < 2 ^ 52
  · rw [if_pos hsmall, if_pos (by omega)]
    omega
  · rw [if_neg hsmall, if_neg (by omega)]

/-- The finite values that are not negative are the patterns below +∞. -/
theorem f64IsFinite_of_pos {v : Word64} (h : f64Sign v = false) : f64IsFinite v = true ↔ v.toNat < 2047 * 2 ^ 52 := by
  have hlt := (f64Sign_eq_false_iff v).mp h
  rw [f64IsFinite, f64Exp_of_pos h, bne_iff_ne]
  omega

theorem f64OfRatio_toNat (n d : Nat) : (f64OfRatio n d).toNat = min (roundPattern (n * f64One) d) (2047 * 2 ^ 52) := by
  rw [f64OfRatio_eq, f64Inf_toNat, BitVec.toNat_ofNat, Nat.mod_eq_of_lt (by omega)]

theorem f64OfRatio_sign (n d : Nat) : f64Sign (f64OfRatio n d) = false := by
  rw [f64Sign_eq_false_iff, f64OfRatio_toNat]
  omega

theorem f64OfRatio_isFinite_iff (n d : Nat) :
    f64IsFinite (f64OfRatio n d) = true ↔ roundPattern (n * f64One) d < 2047 * 2 ^ 52 := by
  rw [f64IsFinite_of_pos (f64OfRatio_sign n d), f64OfRatio_toNat]
  omega

theorem f64OfRatio_toNat_of_finite {n d : Nat} (h : f64IsFinite (f64OfRatio n d) = true) :
    (f64OfRatio n d).toNat = roundPattern (n * f64One) d := by
  rw [f64OfRatio_toNat, Nat.min_eq_left ((f64OfRatio_isFinite_iff n d).mp h).le]

/-- The overflow of the rounding begins at the midpoint between the largest finite value and 2^1024 (R20). -/
theorem f64OfRatio_overflow_iff {n d : Nat} (hd : 0 < d) :
    f64IsFinite (f64OfRatio n d) = false ↔ (2 ^ 54 - 1) * 2 ^ 970 * d ≤ n := by
  have hlast : gridMag (2047 * 2 ^ 52 - 1) = (2 ^ 53 - 1) * 2 ^ 2045 := by
    rw [show 2047 * 2 ^ 52 - 1 = 2045 * 2 ^ 52 + (2 ^ 53 - 1) by omega, gridMag_add (by omega) (.inr (by omega))]
  have hnext : gridMag (2047 * 2 ^ 52 - 1 + 1) = 2 ^ 53 * 2 ^ 2045 := by
    rw [show 2047 * 2 ^ 52 - 1 + 1 = 2045 * 2 ^ 52 + 2 ^ 53 by omega, gridMag_add (by omega) (.inr (by omega))]
  have hpow : (2 : Nat) ^ 2045 = 2 ^ 970 * (2 * f64One) := by rw [f64One, ← pow_succ', ← pow_add]
  have hmid : (gridMag (2047 * 2 ^ 52 - 1) + gridMag (2047 * 2 ^ 52 - 1 + 1)) * d
      = (2 ^ 54 - 1) * 2 ^ 970 * d * (2 * f64One) := by
    rw [hlast, hnext, ← Nat.add_mul, hpow]
    generalize (2 : Nat) ^ 970 = p
    ring
  have hone : 0 < 2 * f64One := Nat.mul_pos Nat.two_pos f64One_pos
  have hlt (k : Nat) : 2047 * 2 ^ 52 ≤ k ↔ 2047 * 2 ^ 52 - 1 < k := by omega
  rw [← Bool.not_eq_true, f64OfRatio_isFinite_iff, Nat.not_lt, hlt, lt_roundPattern_iff hd, AboveMidpoint, hmid,
    Nat.mul_left_comm 2 n]
  generalize (2 ^ 54 - 1) * 2 ^ 970 * d = m
  rw [Nat.mul_lt_mul_right hone, Nat.mul_left_inj hone.ne']
  omega

/-- Settles O21: the finite values are the patterns below +∞, among which rounding takes the nearest. -/
theorem roundingIsToNearestTiesToEven : Obligations.RoundingIsToNearestTiesToEven := by
  intro n d hd r off
  refine ⟨f64OfRatio_overflow_iff hd, fun hinf => ?_, fun b hr hb hsign => ?_⟩
  · rw [← Bool.not_eq_true, f64OfRatio_isFinite_iff, Nat.not_lt] at hinf
    apply BitVec.eq_of_toNat_eq
    rw [f64OfRatio_toNat, Nat.min_eq_right hinf]
    rfl
  · have hrsign := f64OfRatio_sign n d
    have hnearest := roundPattern_nearest hd (n * f64One) b.toNat
    rw [← f64OfRatio_toNat_of_finite hr] at hnearest
    simp only [off, r, f64Mag_of_pos hsign, f64Mag_of_pos hrsign]
    refine ⟨hrsign, hnearest.1, fun htie hne => hnearest.2 htie fun heq => hne (BitVec.eq_of_toNat_eq heq)⟩

/-! ### Values represented exactly -/

/-- A number of at most 53 bits at any exponent is a value of the sequence. -/
theorem exists_gridMag_eq (s : Nat) {a : Nat} (ha : a < 2 ^ 53) : ∃ j, gridMag j = a * 2 ^ s ∧ j < (s + 2) * 2 ^ 52 := by
  induction s generalizing a with
  | zero => exact ⟨0 * 2 ^ 52 + a, gridMag_add ha.le (.inl rfl), by omega⟩
  | succ s ih =>
    rcases Nat.lt_or_ge a (2 ^ 52) with hlow | hhigh
    · obtain ⟨j, hj, hlt⟩ := ih (a := 2 * a) (by omega)
      exact ⟨j, by rw [hj, pow_succ]; ring, hlt.trans_le (Nat.mul_le_mul_right _ (s + 2).le_succ)⟩
    · exact ⟨(s + 1) * 2 ^ 52 + a, by rw [gridMag_add ha.le (.inr hhigh)], by omega⟩

/-- A ratio that is a number of at most 53 bits at an exponent of the range is not rounded. -/
theorem f64OfRatio_exact {n d a s : Nat} (hd : 0 < d) (ha : a < 2 ^ 53) (hs : s ≤ 2045)
    (h : n * f64One = a * 2 ^ s * d) :
    f64IsFinite (f64OfRatio n d) = true ∧ f64Mag (f64OfRatio n d) = a * 2 ^ s := by
  obtain ⟨j, hj, hlt⟩ := exists_gridMag_eq s ha
  have hround : roundPattern (n * f64One) d = j := by rw [h, ← hj, roundPattern_gridMag hd]
  have hfinite : f64IsFinite (f64OfRatio n d) = true := by
    rw [f64OfRatio_isFinite_iff, hround]
    exact hlt.trans_le (Nat.mul_le_mul_right _ (by omega))
  refine ⟨hfinite, ?_⟩
  rw [f64Mag_of_pos (f64OfRatio_sign n d), f64OfRatio_toNat_of_finite hfinite, hround, hj]

theorem f64OfRatio_mul_right {d c : Nat} (hd : 0 < d) (hc : 0 < c) (n : Nat) :
    f64OfRatio (n * c) (d * c) = f64OfRatio n d := by
  rw [f64OfRatio_eq, f64OfRatio_eq, Nat.mul_right_comm, roundPattern_mul_right hd hc]

theorem f64OfNat_exact {n : Nat} (h : n < 2 ^ 53) :
    f64IsFinite (f64OfNat n) = true ∧ f64Mag (f64OfNat n) = n * f64One :=
  f64OfRatio_exact (s := 1074) Nat.one_pos h (Nat.le_of_ble_eq_true rfl) (Nat.mul_one (n * f64One)).symm

end Sys2Proof.Machine

/-! SUPPORT. The proofs of the statements of 40_fixed_point.md: FXP_DECODE is one rounding and FXP_ENCODE rounds half away
(R170 to R177). -/

namespace Sys2Proof.Machine

open Sys2Proof

/-! ### FXP_DECODE -/

theorem f64One_eq_mul : f64One = 2 ^ 20 * 2 ^ 1054 := by rw [f64One, ← pow_add]

/-- The fraction of a 44.20 word is not rounded: 20 bits at an exponent of the range. -/
theorem f64Mag_fraction {lo : Nat} (h : lo < 2 ^ 20) :
    f64Mag (f64Div (f64OfNat lo) (f64OfNat (2 ^ 20))) = lo * 2 ^ 1054 := by
  have hratio : f64Div (f64OfNat lo) (f64OfNat (2 ^ 20)) = f64OfRatio lo (2 ^ 20) := by
    rw [f64Div, (f64OfNat_exact (by omega)).2, (f64OfNat_exact (by omega)).2,
      f64OfRatio_mul_right (Nat.two_pow_pos 20) f64One_pos]
  have hscale : lo * f64One = lo * 2 ^ 1054 * 2 ^ 20 := by
    rw [f64One_eq_mul, Nat.mul_comm (2 ^ 20), Nat.mul_assoc]
  rw [hratio]
  exact (f64OfRatio_exact (Nat.two_pow_pos 20) (h.trans (by decide)) (by decide) hscale).2

/-- Integer part and fraction are exact, so only their sum is rounded, and that once (R171). -/
theorem fxpToF64_eq (bits : Word64) : fxpToF64 bits = f64OfRatio bits.toNat (2 ^ 20) := by
  have hbits := bits.isLt
  have hsum : bits.toNat / 2 ^ 20 * f64One + bits.toNat % 2 ^ 20 * 2 ^ 1054 = bits.toNat * 2 ^ 1054 := by
    rw [f64One_eq_mul, ← Nat.mul_assoc, ← Nat.add_mul, Nat.div_add_mod']
  have hpos : 0 < 2 ^ 1054 := by positivity
  rw [fxpToF64, f64Add, (f64OfNat_exact (by omega)).2, f64Mag_fraction (Nat.mod_lt _ (Nat.two_pow_pos 20)), hsum,
    f64One_eq_mul, f64OfRatio_mul_right (Nat.two_pow_pos 20) hpos]

/-- Settles O22: the operations of the statement are those of the model's FXP_DECODE. -/
theorem fxpDecodeAgreesWithOneRounding : Obligations.FxpDecodeAgreesWithOneRounding := fxpToF64_eq

/-- Settles O23: the command answers `fxpToF64` of its operand. -/
theorem fxpDecodeAnswersTheRoundedValue : Obligations.FxpDecodeAnswersTheRoundedValue := by
  intro s bits hs hport
  have harg : args1 asU64 s.port = some bits := by rw [hport, args1_singleton, asU64_word]
  rw [exec, execFxpDecode, admit_beforeFault_of_operands hs harg, fxpToF64_eq]
  rfl

theorem toNat_ofNat_shiftLeft {n : Nat} (h : n < 2 ^ 44) : (BitVec.ofNat 64 n <<< 20).toNat = n * 2 ^ 20 := by
  rw [BitVec.toNat_shiftLeft, BitVec.toNat_ofNat, Nat.shiftLeft_eq]
  omega

/-- An integer in bits 63:20 decodes to itself (R173). -/
theorem fxpToF64_of_integer {w : Word64} {n : Nat} (h : w.toNat = n * 2 ^ 20) : fxpToF64 w = f64OfNat n := by
  have hscale := f64OfRatio_mul_right (c := 2 ^ 20) Nat.one_pos (Nat.two_pow_pos 20) n
  rwa [Nat.one_mul, ← h, ← fxpToF64_eq] at hscale

/-- Settles O24: the one rounding is of the integer itself, which is exact. -/
theorem fxpDecodeIsExactOnIntegers : Obligations.FxpDecodeIsExactOnIntegers := by
  intro s n hs hn hport
  have hvalue := fxpToF64_of_integer (toNat_ofNat_shiftLeft hn)
  rw [fxpToF64_eq] at hvalue
  obtain ⟨hfinite, hmag⟩ := f64OfNat_exact (n := n) (by omega)
  refine ⟨f64OfNat n, ?_, hfinite, f64OfRatio_sign n 1, hmag⟩
  rw [fxpDecodeAnswersTheRoundedValue s _ hs hport, hvalue]

/-! ### FXP_ENCODE -/

/-- A negative value that is encodable is above -0.5 and rounds to 0 (R174). -/
theorem fxpOfF64_of_negative {v : Word64} (h : EncodableValue v) (hs : f64Sign v = true) : fxpOfF64 v = some 0 := by
  obtain ⟨hnan, hrange⟩ := h
  rw [if_pos hs] at hrange
  simp only [fxpOfF64, hnan, hs, hrange, Bool.false_eq_true, if_true, if_false]

/-- An encodable value that is not negative rounds to the nearest integer, a tie away from zero, which has 44 bits
(R174, R175). -/
theorem fxpOfF64_of_nonnegative {v : Word64} (h : EncodableValue v) (hs : f64Sign v = false) {n : Nat}
    (hn : n = (2 * f64Mag v + f64One) / (2 * f64One)) :
    n < 2 ^ 44 ∧ fxpOfF64 v = some (BitVec.ofNat 64 n <<< 20) := by
  obtain ⟨hnan, hrange⟩ := h
  have hns : ¬ f64Sign v = true := Bool.eq_false_iff.mp hs
  rw [if_neg hns] at hrange
  have hlt : n < 2 ^ 44 := by
    rw [hn, Nat.div_lt_iff_lt_mul (Nat.mul_pos Nat.two_pos f64One_pos)]
    omega
  have hword : BitVec.ofNat 64 (n * 2 ^ 20) = BitVec.ofNat 64 n <<< 20 := by
    apply BitVec.eq_of_toNat_eq
    rw [toNat_ofNat_shiftLeft hlt, BitVec.toNat_ofNat]
    omega
  refine ⟨hlt, ?_⟩
  rw [← hword, hn, fxpOfF64, if_neg (Bool.eq_false_iff.mp hnan), if_neg hns, if_pos hrange]
  rfl

theorem fxpOfF64_of_not_encodable {v : Word64} (h : ¬ EncodableValue v) : fxpOfF64 v = none := by
  rw [← encodable_iff, encodable, Bool.not_eq_true] at h
  exact Option.isNone_iff_eq_none.mp (Option.isSome_eq_false_iff.mp h)

theorem encodableValue_of_some {v w : Word64} (h : fxpOfF64 v = some w) : EncodableValue v := by
  rw [← encodable_iff, encodable, h]
  rfl

theorem exec_fxpEncode_of_port {s : State} {v : Word64} (hs : s.phase ≠ .fault) (hport : s.port = [.word v]) :
    exec .fxpEncode s = .next (s.answerFxp (fxpOfF64 v)) := by
  have harg : args1 asF64 s.port = some v := by rw [hport, args1_singleton, asF64_word]
  rw [exec, execFxpEncode, admit_beforeFault_of_operands hs harg]

/-- Settles O25: the three clauses are the three ways `fxpOfF64` ends, and the integer is the one between the bounds. -/
theorem fxpEncodeRoundsHalfAway : Obligations.FxpEncodeRoundsHalfAway := by
  intro s v hs hport
  rw [exec_fxpEncode_of_port hs hport]
  refine ⟨fun henc hsign => ?_, fun henc hsign n hlow hhigh => ?_, fun henc => ?_⟩
  · rw [fxpOfF64_of_negative henc hsign]
    rfl
  · have hn : n = (2 * f64Mag v + f64One) / (2 * f64One) := by
      generalize f64One = one at hlow hhigh
      refine (Nat.div_eq_of_lt_le ?_ ?_).symm
      · calc n * (2 * one) = 2 * n * one := by ring
          _ ≤ _ := hlow
      · calc _ < (2 * n + 2) * one := hhigh
          _ = (n + 1) * (2 * one) := by ring
    obtain ⟨hlt, hsome⟩ := fxpOfF64_of_nonnegative henc hsign hn
    rw [hsome]
    exact ⟨hlt, rfl⟩
  · rw [fxpOfF64_of_not_encodable henc]
    rfl

/-- A binary64 integer of 44 bits is encodable (R176). -/
theorem encodableValue_f64OfNat {n : Nat} (h : n < 2 ^ 44) : EncodableValue (f64OfNat n) := by
  obtain ⟨hfinite, hmag⟩ := f64OfNat_exact (n := n) (by omega)
  have hns : ¬ f64Sign (f64OfNat n) = true := Bool.eq_false_iff.mp (f64OfRatio_sign n 1)
  constructor
  · rw [f64IsFinite, bne_iff_ne] at hfinite
    rw [f64IsNaN, beq_eq_false_iff_ne.mpr hfinite, Bool.false_and]
  · rw [if_neg hns, hmag, ← Nat.mul_assoc]
    exact Nat.mul_lt_mul_of_pos_right (by omega) f64One_pos

/-- Settles O26: an integer is exact both ways, and what FXP_ENCODE answers has its integer in bits 63:20 alone. -/
theorem fxpRoundTrip : Obligations.FxpRoundTrip := by
  refine ⟨fun n hn => ⟨?_, fxpToF64_of_integer (toNat_ofNat_shiftLeft hn)⟩, fun v w hw => ?_⟩
  · refine (fxpOfF64_of_nonnegative (encodableValue_f64OfNat hn) (f64OfRatio_sign n 1) ?_).2
    rw [(f64OfNat_exact (by omega)).2]
    have hone := f64One_pos
    generalize f64One = one at hone
    refine (Nat.div_eq_of_lt_le ?_ ?_).symm
    · rw [Nat.mul_left_comm]
      exact Nat.le_add_right _ _
    · calc 2 * (n * one) + one < 2 * (n * one) + 2 * one := by omega
        _ = (n + 1) * (2 * one) := by ring
  · have henc := encodableValue_of_some hw
    cases hsign : f64Sign v with
    | true =>
      obtain rfl : 0 = w := Option.some.inj ((fxpOfF64_of_negative henc hsign).symm.trans hw)
      exact ⟨rfl, fxpToF64_of_integer rfl, nofun, fun _ => rfl⟩
    | false =>
      obtain ⟨hlt, hsome⟩ := fxpOfF64_of_nonnegative henc hsign rfl
      have hword := congrArg BitVec.toNat (Option.some.inj (hsome.symm.trans hw))
      rw [toNat_ofNat_shiftLeft hlt] at hword
      have hdiv : w.toNat / 2 ^ 20 = (2 * f64Mag v + f64One) / (2 * f64One) := by
        rw [← hword]
        exact Nat.mul_div_cancel _ (Nat.two_pow_pos 20)
      refine ⟨by rw [← hword]; exact Nat.mul_mod_left _ _, ?_, fun _ => hdiv, nofun⟩
      rw [hdiv]
      exact fxpToF64_of_integer hword.symm

end Sys2Proof.Machine

/-! SUPPORT. The proofs of the statements of 43_timestamp.md about TS_ADVANCE (R240 to R242): the whole seconds and the rest
of the elapsed time are exact, and the picoseconds round to fewer than 10^12. -/

namespace Sys2Proof.Machine

open Sys2Proof

/-! ### The split of the elapsed time -/

/-- A finite value that is not negative is a number of at most 53 bits at an exponent of the range. -/
theorem exists_f64Mag_eq {v : Word64} (hsign : f64Sign v = false) (hfinite : f64IsFinite v = true) :
    ∃ s m, f64Mag v = m * 2 ^ s ∧ m < 2 ^ 53 ∧ s ≤ 2045 := by
  have hlt := (f64IsFinite_of_pos hsign).mp hfinite
  obtain ⟨e, m, hk, hm, hnormal⟩ := exists_significand v.toNat
  refine ⟨e, m, ?_, hm, by omega⟩
  rw [f64Mag_of_pos hsign, hk, gridMag_add hm.le hnormal]

/-- A number at an exponent `s` has at most as many bits below 2^t as it has itself, and its part above is one too. -/
theorem mul_two_pow_div_mod (m : Nat) {s t : Nat} (h : s ≤ t) :
    m * 2 ^ s / 2 ^ t ≤ m ∧ m * 2 ^ s % 2 ^ t = m % 2 ^ (t - s) * 2 ^ s := by
  have hpow : 2 ^ t = 2 ^ (t - s) * 2 ^ s := by rw [← pow_add, Nat.sub_add_cancel h]
  rw [hpow]
  exact ⟨(Nat.mul_div_mul_right _ _ (Nat.two_pow_pos s)).trans_le (Nat.div_le_self _ _), Nat.mul_mod_mul_right _ _ _⟩

/-- The whole seconds of a finite elapsed time are represented exactly. -/
theorem f64Mag_wholeSeconds {v : Word64} (hsign : f64Sign v = false) (hfinite : f64IsFinite v = true) :
    f64Mag (f64OfNat (f64Floor v)) = f64Floor v * f64One := by
  obtain ⟨s, m, hmag, hm, hs⟩ := exists_f64Mag_eq hsign hfinite
  rcases Nat.le_total s 1074 with hle | hge
  · have hwhole : f64Floor v ≤ m := by
      rw [f64Floor, hmag, f64One]
      exact (mul_two_pow_div_mod m hle).1
    exact (f64OfNat_exact (hwhole.trans_lt hm)).2
  · have hfloor : f64Floor v * f64One = m * 2 ^ s := by
      rw [f64Floor, hmag]
      exact Nat.div_mul_cancel ((pow_dvd_pow 2 hge).mul_left m)
    rw [hfloor]
    exact (f64OfRatio_exact Nat.one_pos hm hs (hfloor.trans (Nat.mul_one _).symm)).2

/-- The elapsed time past its whole seconds is represented exactly. -/
theorem f64Mag_restOfSecond {v : Word64} (hsign : f64Sign v = false) (hfinite : f64IsFinite v = true) :
    f64Mag (f64Sub v (f64OfNat (f64Floor v))) = f64Mag v % f64One := by
  have hrest : f64Mag v - f64Floor v * f64One = f64Mag v % f64One := by
    rw [f64Floor, Nat.mod_eq_sub_div_mul]
  rw [f64Sub, f64Mag_wholeSeconds hsign hfinite, hrest]
  obtain ⟨s, m, hmag, hm, hs⟩ := exists_f64Mag_eq hsign hfinite
  rcases Nat.le_total s 1074 with hle | hge
  · have hmod : f64Mag v % f64One = m % 2 ^ (1074 - s) * 2 ^ s := by
      rw [hmag, f64One]
      exact (mul_two_pow_div_mod m hle).2
    rw [hmod]
    exact (f64OfRatio_exact f64One_pos ((Nat.mod_le _ _).trans_lt hm) hs rfl).2
  · have hmod : f64Mag v % f64One = 0 * 2 ^ s := by
      rw [hmag, Nat.zero_mul]
      exact Nat.mod_eq_zero_of_dvd ((pow_dvd_pow 2 hge).mul_left m)
    rw [hmod]
    exact (f64OfRatio_exact f64One_pos (by decide) hs rfl).2

/-- A rounded value below 1 leaves at least 2^-53 to it. -/
theorem f64Mag_le_of_lt_one {v : Word64} (hsign : f64Sign v = false) (h : f64Mag v < f64One) :
    f64Mag v ≤ (2 ^ 53 - 1) * 2 ^ 1021 := by
  have hone : gridMag (1021 * 2 ^ 52 + 2 ^ 53) = f64One := by
    rw [gridMag_add le_rfl (.inr (by decide)), f64One, ← pow_add]
  have hlast : gridMag (1021 * 2 ^ 52 + (2 ^ 53 - 1)) = (2 ^ 53 - 1) * 2 ^ 1021 :=
    gridMag_add (by decide) (.inr (by decide))
  rw [f64Mag_of_pos hsign] at h ⊢
  rw [← hone, gridMag_strictMono.lt_iff_lt] at h
  rw [← hlast, gridMag_strictMono.le_iff_le]
  omega

/-- The pattern of 10^12. -/
def picosPattern : Nat := 1061 * 2 ^ 52 + picosPerSecond * 2 ^ 13

theorem gridMag_picosPattern : gridMag picosPattern = picosPerSecond * f64One := by
  rw [picosPattern, gridMag_add (by decide) (.inr (by decide)), f64One, Nat.mul_assoc, ← pow_add]

theorem gridMag_before_picosPattern : gridMag (picosPattern - 1) = (picosPerSecond * 2 ^ 13 - 1) * 2 ^ 1061 := by
  have hindex : picosPattern - 1 = 1061 * 2 ^ 52 + (picosPerSecond * 2 ^ 13 - 1) := rfl
  rw [hindex, gridMag_add (by decide) (.inr (by decide))]

/-- The picoseconds of a second short of its last place stay below the midpoint of 10^12 and the value before it. -/
theorem not_aboveMidpoint_picos {m : Nat} (h : m ≤ (2 ^ 53 - 1) * 2 ^ 1021) :
    ¬ AboveMidpoint (m * picosPerSecond * f64One) f64One (picosPattern - 1) := by
  have hsum : gridMag (picosPattern - 1) + gridMag (picosPattern - 1 + 1)
      = (picosPerSecond * 2 ^ 14 - 1) * 2 ^ 40 * 2 ^ 1021 := by
    have hone : f64One = 2 ^ 13 * (2 ^ 40 * 2 ^ 1021) := by rw [f64One, ← pow_add, ← pow_add]
    have hpow : (2 : Nat) ^ 1061 = 2 ^ 40 * 2 ^ 1021 := by rw [← pow_add]
    have hnext : picosPattern - 1 + 1 = picosPattern := rfl
    rw [hnext, gridMag_picosPattern, gridMag_before_picosPattern, hone, hpow]
    generalize 2 ^ 1021 = p
    simp only [picosPerSecond]
    omega
  have hbelow : 2 * (m * picosPerSecond) < gridMag (picosPattern - 1) + gridMag (picosPattern - 1 + 1) := by
    rw [hsum]
    have hpos : 0 < 2 ^ 1021 := by positivity
    generalize 2 ^ 1021 = p at h hpos
    simp only [picosPerSecond]
    omega
  have hscaled := Nat.mul_lt_mul_of_pos_right hbelow f64One_pos
  rw [AboveMidpoint, ← Nat.mul_assoc 2]
  omega

/-- The picoseconds of less than a second are fewer than 10^12 (R242). -/
theorem picoseconds_lt {v : Word64} (hsign : f64Sign v = false) (h : f64Mag v < f64One) :
    f64Floor (f64Mul v (f64OfNat picosPerSecond)) < picosPerSecond := by
  have hratio : f64Mul v (f64OfNat picosPerSecond) = f64OfRatio (f64Mag v * picosPerSecond) f64One := by
    rw [f64Mul, (f64OfNat_exact (by decide)).2, ← Nat.mul_assoc, f64OfRatio_mul_right f64One_pos f64One_pos]
  have hround : roundPattern (f64Mag v * picosPerSecond * f64One) f64One < picosPattern := by
    have hmid := not_aboveMidpoint_picos (f64Mag_le_of_lt_one hsign h)
    rw [← lt_roundPattern_iff f64One_pos, Nat.not_lt] at hmid
    exact hmid.trans_lt (by decide)
  have hpattern : (f64OfRatio (f64Mag v * picosPerSecond) f64One).toNat < picosPattern := by
    rw [f64OfRatio_toNat]
    exact (Nat.min_le_left _ _).trans_lt hround
  rw [hratio, f64Floor, f64Mag_of_pos (f64OfRatio_sign _ _), Nat.div_lt_iff_lt_mul f64One_pos, ← gridMag_picosPattern]
  exact gridMag_strictMono hpattern

/-- The split of an elapsed time gives fewer than 10^12 picoseconds. -/
theorem elapsedSplit_snd_lt {v : Word64} (hsign : f64Sign v = false) (hfinite : f64IsFinite v = true) :
    (elapsedSplit v).2 < picosPerSecond := by
  refine picoseconds_lt (f64OfRatio_sign _ _) ?_
  rw [f64Mag_restOfSecond hsign hfinite]
  exact Nat.mod_lt _ f64One_pos

/-! ### TS_ADVANCE -/

theorem elapsedF64_sign (psr : Word64) (spp : Word32) (rate : Word64) : f64Sign (elapsedF64 psr spp rate) = false :=
  f64OfRatio_sign _ _

/-- The timestamp is the reference moved by the split of a finite elapsed time (R240). -/
theorem advance_of_finite {s : State} (h : f64IsFinite (elapsedF64 s.tsPsr s.cfg.spp s.cfg.sampleRate) = true) :
    s.advance = some (addElapsed s.tsRef (elapsedSplit (elapsedF64 s.tsPsr s.cfg.spp s.cfg.sampleRate)).1
      (elapsedSplit (elapsedF64 s.tsPsr s.cfg.spp s.cfg.sampleRate)).2) := by
  rw [State.advance]
  exact if_pos h

theorem advance_of_infinite {s : State} (h : f64IsFinite (elapsedF64 s.tsPsr s.cfg.spp s.cfg.sampleRate) = false) :
    s.advance = none := by
  rw [State.advance]
  exact if_neg (Bool.eq_false_iff.mp h)

theorem ofNat_toNat_add {w : Nat} (x : BitVec w) (n : Nat) : BitVec.ofNat w (x.toNat + n) = x + BitVec.ofNat w n := by
  rw [BitVec.ofNat_add, BitVec.ofNat_toNat, BitVec.setWidth_eq]

theorem addElapsed_of_lt {r : Timestamp} {whole ps : Nat} (h : r.frac.toNat + ps < picosPerSecond) :
    addElapsed r whole ps =
      ⟨BitVec.ofNat 32 (r.full.toNat + whole), BitVec.ofNat 64 (r.frac.toNat + ps)⟩ := by
  rw [addElapsed, if_neg (Nat.not_le.mpr h), ofNat_toNat_add r.full]

theorem addElapsed_of_le {r : Timestamp} {whole ps : Nat} (h : picosPerSecond ≤ r.frac.toNat + ps) :
    addElapsed r whole ps =
      ⟨BitVec.ofNat 32 (r.full.toNat + whole + 1), BitVec.ofNat 64 (r.frac.toNat + ps - picosPerSecond)⟩ := by
  rw [addElapsed, if_pos h, Nat.add_assoc, ofNat_toNat_add r.full]

/-- One carry makes a legal fraction of two (R242). -/
theorem addElapsed_frac_lt {r : Timestamp} {whole ps : Nat} (hr : r.frac.toNat < picosPerSecond)
    (hps : ps < picosPerSecond) : (addElapsed r whole ps).frac.toNat < picosPerSecond := by
  rcases Nat.lt_or_ge (r.frac.toNat + ps) picosPerSecond with h | h
  · rw [addElapsed_of_lt h, BitVec.toNat_ofNat]
    omega
  · rw [addElapsed_of_le h, BitVec.toNat_ofNat]
    omega

theorem exec_tsAdvance_of_run {s : State} (hs : s.phase = .run) :
    exec .tsAdvance s = .next
      (if !f64IsPositiveFinite s.cfg.sampleRate then s.refuse .badConfig else s.answerTime s.advance) := by
  rw [exec, execTsAdvance, admit_of_check (check_running hs)]

theorem exec_tsAdvance_of_rate {s : State} (hs : s.phase = .run) (hrate : f64IsPositiveFinite s.cfg.sampleRate = true) :
    exec .tsAdvance s = .next (s.answerTime s.advance) := by
  simp only [exec_tsAdvance_of_run hs, hrate, Bool.not_true, Bool.false_eq_true, if_false]

/-- Settles O35: the clauses are the branches of the command, of the elapsed time and of the carry. -/
theorem tsAdvanceExtrapolates : Obligations.TsAdvanceExtrapolates := by
  intro s hs e whole ps f
  have he : elapsedF64 s.tsPsr s.cfg.spp s.cfg.sampleRate = e := rfl
  have hsplit : elapsedSplit e = (whole, ps) := rfl
  clear_value ps whole e
  refine ⟨fun hrate => ?_, fun hrate hinf => ?_, fun hrate hfinite hf => ?_, fun hrate hfinite hf => ?_⟩
  · rw [exec_tsAdvance_of_run hs, hrate]
    rfl
  · rw [exec_tsAdvance_of_rate hs hrate, advance_of_infinite (he ▸ hinf)]
    rfl
  · rw [exec_tsAdvance_of_rate hs hrate, advance_of_finite (he ▸ hfinite), he, hsplit, addElapsed_of_lt hf]
    rfl
  · rw [exec_tsAdvance_of_rate hs hrate, advance_of_finite (he ▸ hfinite), he, hsplit, addElapsed_of_le hf]
    rfl

/-- A timestamp is answered by an admitted TS_ADVANCE alone, and it is the extrapolated one. -/
theorem advance_of_answer {s t : State} {v : Timestamp} (he : exec .tsAdvance s = .next t)
    (hr : t.response = some (.ok (.time v))) : s.advance = some v := by
  rw [exec, execTsAdvance, Host.Outcome.next.injEq] at he
  rcases admit_cases .running s
    (if !f64IsPositiveFinite s.cfg.sampleRate then s.refuse .badConfig else s.answerTime s.advance) with
    ⟨c, -, h⟩ | ⟨-, h⟩
  · rw [← he, h] at hr
    cases hr
  · rw [← he, h] at hr
    split at hr
    · cases hr
    · cases ha : s.advance with
      | none =>
        rw [ha] at hr
        cases hr
      | some w =>
        rw [ha] at hr
        cases hr
        rfl

/-- Settles O36: the picoseconds of the split are fewer than 10^12, and so is the fraction after one carry. -/
theorem tsAdvanceKeepsTheFractionLegal : Obligations.TsAdvanceKeepsTheFractionLegal := by
  intro s t v href he hr
  have hadvance := advance_of_answer he hr
  cases hfinite : f64IsFinite (elapsedF64 s.tsPsr s.cfg.spp s.cfg.sampleRate) with
  | false => exact nomatch (advance_of_infinite hfinite).symm.trans hadvance
  | true =>
    obtain rfl := Option.some.inj ((advance_of_finite hfinite).symm.trans hadvance)
    exact addElapsed_frac_lt href (elapsedSplit_snd_lt (elapsedF64_sign _ _ _) hfinite)

/-- Zero rounds to zero. -/
theorem f64OfRatio_zero {d : Nat} (hd : 0 < d) : f64OfRatio 0 d = 0 := by
  have hzero : gridMag 0 * d = 0 * f64One := by
    rw [Nat.zero_mul]
    exact Nat.zero_mul d
  rw [f64OfRatio_eq, ← hzero, roundPattern_gridMag hd]
  rfl

theorem f64Mag_zero : f64Mag 0 = 0 := rfl

theorem f64Floor_zero : f64Floor 0 = 0 := by rw [f64Floor, f64Mag_zero, Nat.zero_div]

theorem f64Mag_pos_of_positiveFinite {v : Word64} (h : f64IsPositiveFinite v = true) : 0 < f64Mag v := by
  rw [f64IsPositiveFinite, Bool.and_eq_true, bne_iff_ne] at h
  exact Nat.pos_of_ne_zero h.2

/-- No packet since the reference is no time since it (R240). -/
theorem elapsedF64_zero {spp : Word32} {rate : Word64} (h : f64IsPositiveFinite rate = true) :
    elapsedF64 0 spp rate = 0 := by
  have hcount : f64OfNat ((0 : Word64).toNat * spp.toNat) = 0 := by
    rw [show (0 : Word64).toNat = 0 from rfl, Nat.zero_mul, f64OfNat, f64OfRatio_zero Nat.one_pos]
  rw [elapsedF64, hcount, f64Div, f64Mag_zero, f64OfRatio_zero (f64Mag_pos_of_positiveFinite h)]

theorem elapsedSplit_zero : elapsedSplit 0 = (0, 0) := by
  have hrest : f64Sub 0 (f64OfNat 0) = 0 := by
    rw [f64Sub, f64Mag_zero, Nat.zero_sub, f64OfRatio_zero f64One_pos]
  have hps : f64Mul 0 (f64OfNat picosPerSecond) = 0 := by
    rw [f64Mul, f64Mag_zero, Nat.zero_mul, f64OfRatio_zero (Nat.mul_pos f64One_pos f64One_pos)]
  rw [elapsedSplit, f64Floor_zero, hrest, hps, f64Floor_zero]

/-- Settles O37: an elapsed time of zero is finite, splits into zeros and moves nothing. -/
theorem tsAdvanceAtTheReference : Obligations.TsAdvanceAtTheReference := by
  intro s hs hrate hpsr href
  have helapsed : elapsedF64 s.tsPsr s.cfg.spp s.cfg.sampleRate = 0 := by rw [hpsr, elapsedF64_zero hrate]
  have hfinite : f64IsFinite (elapsedF64 s.tsPsr s.cfg.spp s.cfg.sampleRate) = true := by
    rw [helapsed]
    rfl
  have hsame : addElapsed s.tsRef 0 0 = s.tsRef := by
    rw [addElapsed_of_lt (by omega), Nat.add_zero, Nat.add_zero, BitVec.ofNat_toNat, BitVec.ofNat_toNat,
      BitVec.setWidth_eq, BitVec.setWidth_eq]
  rw [exec_tsAdvance_of_rate hs hrate, advance_of_finite hfinite, helapsed, elapsedSplit_zero, hsame]
  rfl

end Sys2Proof.Machine

/-! SUPPORT. The proofs of the statements of 41_header.md and 42_context.md about round trips: the header word (R193), and
packing and unpacking a context packet by the table of its profile (R138, R139, R212 to R215). -/

namespace Sys2Proof.Machine

open Sys2Proof

/-! ### The header word -/

/-- Settles O29: the packed word is the sum of its fields, each of which stands at its own weight. -/
theorem headerRoundTrip : Obligations.HeaderRoundTrip := by
  intro s t static seq wc w hs hstatic hseq hwc he hr
  have hword := headerWord_toNat hstatic hseq hwc
  have hok : ¬ (static.toNat % 2 ^ 20 ≠ 0 ∨ 15 < seq.toNat ∨ 0xFFFF < wc.toNat) := by omega
  have hnext := (exec_hdrEncode_of_port (s := { s with
    port := [.word (static.setWidth 64), .word (seq.setWidth 64), .word (wc.setWidth 64)] }) hs rfl).symm.trans he
  rw [if_neg hok, Host.Outcome.next.injEq] at hnext
  subst hnext
  obtain rfl : headerWord static seq wc = w := by
    simpa only [State.ok_response, Option.some.injEq, Response.ok.injEq, Values.u32.injEq] using hr
  obtain ⟨hkind, hsequence, hwordCount, hstaticPart, -⟩ := headerFields_toNat (headerWord static seq wc)
  rw [hword] at hkind hsequence hwordCount hstaticPart
  refine ⟨_, _, exec_hdrDecode_of_port hs rfl, rfl, ?_, ?_, ?_, BitVec.eq_of_toNat_eq ?_⟩ <;> omega

/-! ### The tables of the profiles -/

/-- Offset and width of a row. -/
def LayoutRow.place (r : LayoutRow) : Nat × Nat := (r.offset, r.size)

/-- The rows of a table stand one behind another in a packet of the given size. -/
def TidyLayout (rows : List LayoutRow) (size : Nat) : Prop :=
  rows.Pairwise (fun a b => a.offset + a.size ≤ b.offset) ∧ ∀ r ∈ rows, r.offset + r.size ≤ size

theorem Profile.layout_tidy (p : Profile) : TidyLayout p.layout p.size := by
  unfold TidyLayout
  cases p <;> decide

theorem profileOfLength_size (p : Profile) : profileOfLength p.size = some p := by
  cases p <;> rfl

/-! ### Packing -/

theorem ctxFill_length (rows : List LayoutRow) (vals : List Nat) (buf : List Byte)
    (hfit : ∀ r ∈ rows, r.offset + r.size ≤ buf.length) : (ctxFill rows vals buf).length = buf.length := by
  induction rows generalizing vals buf with
  | nil => rfl
  | cons r rows ih =>
    cases vals with
    | nil => rfl
    | cons v vals =>
      have hlen := beWrite_length buf r.offset r.size v (hfit r (List.mem_cons_self ..))
      rw [ctxFill, ih vals _ fun q hq => hlen ▸ hfit q (List.mem_cons_of_mem _ hq), hlen]

/-- Filling leaves a place before all of its rows alone. -/
theorem beRead_ctxFill_before (rows : List LayoutRow) (vals : List Nat) (buf : List Byte) {o m : Nat}
    (hfit : ∀ r ∈ rows, r.offset + r.size ≤ buf.length) (hbefore : ∀ r ∈ rows, o + m ≤ r.offset) :
    beRead (ctxFill rows vals buf) o m = beRead buf o m := by
  induction rows generalizing vals buf with
  | nil => rfl
  | cons r rows ih =>
    cases vals with
    | nil => rfl
    | cons v vals =>
      have hr := hfit r (List.mem_cons_self ..)
      have hlen := beWrite_length buf r.offset r.size v hr
      rw [ctxFill, ih vals _ (fun q hq => hlen ▸ hfit q (List.mem_cons_of_mem _ hq))
        fun q hq => hbefore q (List.mem_cons_of_mem _ hq)]
      exact beRead_beWrite_other buf _ _ v _ _ hr (.inl (hbefore r (List.mem_cons_self ..)))

/-- Each row of a filled packet reads as the value written there. -/
theorem beRead_ctxFill (rows : List LayoutRow) (vals : List Nat) (buf : List Byte) (htidy : TidyLayout rows buf.length)
    (hvals : ∀ q ∈ (rows.map LayoutRow.place).zip vals, q.2 < 256 ^ q.1.2) :
    ∀ q ∈ (rows.map LayoutRow.place).zip vals, beRead (ctxFill rows vals buf) q.1.1 q.1.2 = q.2 := by
  induction rows generalizing vals buf with
  | nil => exact nofun
  | cons r rows ih =>
    cases vals with
    | nil => exact nofun
    | cons v vals =>
      obtain ⟨hordered, hfit⟩ := htidy
      rw [List.pairwise_cons] at hordered
      rw [List.map_cons, List.zip_cons_cons, List.forall_mem_cons] at hvals ⊢
      have hr := hfit r (List.mem_cons_self ..)
      have hlen := beWrite_length buf r.offset r.size v hr
      have hrest : ∀ q ∈ rows, q.offset + q.size ≤ (beWrite buf r.offset r.size v).length := fun q hq =>
        hlen ▸ hfit q (List.mem_cons_of_mem _ hq)
      refine ⟨?_, ih vals _ ⟨hordered.2, hrest⟩ hvals.2⟩
      rw [ctxFill]
      exact (beRead_ctxFill_before rows vals _ hrest hordered.1).trans (beRead_beWrite_same buf _ _ v hr hvals.1)

/-- A packet packed by its profile's table holds the values of the table's fields and nothing else (R214). -/
theorem ctxBytes_holdsFields {p : Profile} {vals : List Nat} (hlen : vals.length = p.layout.length)
    (hvals : ∀ q ∈ (p.layout.map LayoutRow.place).zip vals, q.2 < 256 ^ q.1.2) :
    HoldsFields (ctxBytes p vals) p.size (p.layout.map LayoutRow.place) vals := by
  have hsize : (List.replicate p.size (0 : Byte)).length = p.size := List.length_replicate
  have htidy : TidyLayout p.layout (List.replicate p.size (0 : Byte)).length := hsize.symm ▸ p.layout_tidy
  exact ⟨(ctxFill_length _ _ _ htidy.2).trans hsize, by rw [List.length_map, hlen],
    beRead_ctxFill _ _ _ htidy hvals⟩

/-! ### The operands of CTX_ENCODE -/

/-- Values that fit their fields are read as numbers. -/
theorem ctxOperands_of_fits {rows : List LayoutRow} {vals : List Word64} (hlen : vals.length = rows.length)
    (hfit : ∀ q ∈ (rows.map LayoutRow.place).zip vals, q.2.toNat < 256 ^ q.1.2) :
    ctxOperands rows (vals.map Operand.word) = some (vals.map BitVec.toNat) := by
  induction rows generalizing vals with
  | nil =>
    obtain rfl := List.eq_nil_of_length_eq_zero hlen
    rfl
  | cons r rows ih =>
    cases vals with
    | nil => cases hlen
    | cons v vals =>
      rw [List.map_cons, List.zip_cons_cons, List.forall_mem_cons] at hfit
      obtain ⟨hv, hrest⟩ := hfit
      change v.toNat < 256 ^ r.size at hv
      rw [List.map_cons, ctxOperands, if_pos hv, ih (Nat.succ.inj hlen) hrest]
      rfl

/-- Operands that are read are numbers of the table's count, each within its field. -/
theorem exists_of_ctxOperands {rows : List LayoutRow} {ops : List Operand} {ns : List Nat}
    (h : ctxOperands rows ops = some ns) :
    ∃ vals : List Word64, ops = vals.map Operand.word ∧ ns = vals.map BitVec.toNat ∧ vals.length = rows.length ∧
      ∀ q ∈ (rows.map LayoutRow.place).zip vals, q.2.toNat < 256 ^ q.1.2 := by
  induction rows generalizing ops ns with
  | nil =>
    cases ops with
    | nil =>
      cases h
      exact ⟨[], rfl, rfl, rfl, nofun⟩
    | cons o ops => cases h
  | cons r rows ih =>
    match ops, h with
    | .word v :: ops, h =>
      rw [ctxOperands] at h
      split at h
      · next hv =>
        obtain ⟨ns, hns, rfl⟩ := Option.map_eq_some_iff.mp h
        obtain ⟨vals, rfl, rfl, hlen, hfit⟩ := ih hns
        refine ⟨v :: vals, rfl, rfl, congrArg Nat.succ hlen, ?_⟩
        rw [List.map_cons, List.zip_cons_cons, List.forall_mem_cons]
        exact ⟨hv, hfit⟩
      · cases h

/-- The command that packs by a profile's table. -/
def Profile.encodeInstr : Profile → Instr
  | .alt => .ctxEncodeAlt
  | .std => .ctxEncodeStd

theorem exec_encodeInstr (p : Profile) (s : State) :
    exec p.encodeInstr s = .next (whenAdmitted .beforeFault s (s.ctxEncode p)) := by
  cases p <;> rfl

theorem ctxEncode_of_some {s : State} {p : Profile} {ns : List Nat} (h : ctxOperands p.layout s.port = some ns) :
    s.ctxEncode p = s.ok (.bytes (ctxBytes p ns)) := by
  simp only [State.ctxEncode, h]

theorem ctxEncode_of_none {s : State} {p : Profile} (h : ctxOperands p.layout s.port = none) :
    s.ctxEncode p = s.refuse .badOperand := by
  simp only [State.ctxEncode, h]

/-- CTX_ENCODE of values that fit answers the packet that holds them (R214). -/
theorem exec_encodeInstr_of_fits (p : Profile) {s : State} {vals : List Word64} (hs : s.phase ≠ .fault)
    (hport : s.port = vals.map Operand.word) (hlen : vals.length = (p.layout.map LayoutRow.place).length)
    (hfit : ∀ q ∈ (p.layout.map LayoutRow.place).zip vals, q.2.toNat < 256 ^ q.1.2) :
    ∃ b : List Byte, exec p.encodeInstr s = .next (s.answered (.ok (.bytes b)) []) ∧ b.length = p.size ∧
      ∀ q ∈ (p.layout.map LayoutRow.place).zip vals, beRead b q.1.1 q.1.2 = q.2.toNat := by
  rw [List.length_map] at hlen
  have hzip : (p.layout.map LayoutRow.place).zip (vals.map BitVec.toNat)
      = ((p.layout.map LayoutRow.place).zip vals).map (Prod.map id BitVec.toNat) := by
    rw [← List.zip_map, List.map_id]
  have hsome : ctxOperands p.layout s.port = some (vals.map BitVec.toNat) := hport ▸ ctxOperands_of_fits hlen hfit
  obtain ⟨hsize, -, hread⟩ := ctxBytes_holdsFields (p := p) (vals := vals.map BitVec.toNat)
    (by rw [List.length_map, hlen]) (by rw [hzip, List.forall_mem_map]; exact hfit)
  refine ⟨_, ?_, hsize, ?_⟩
  · rw [exec_encodeInstr, admit_of_check (check_beforeFault hs), ctxEncode_of_some hsome]
    rfl
  · rw [hzip, List.forall_mem_map] at hread
    exact hread

/-- Settles O31: the two commands are one operation, and the tables of the statement are those of the profiles. -/
theorem ctxEncodeWritesEveryField : Obligations.CtxEncodeWritesEveryField := by
  intro s vals hs hport
  exact ⟨exec_encodeInstr_of_fits .alt hs hport, exec_encodeInstr_of_fits .std hs hport⟩

/-- CTX_ENCODE refuses what its table does not read (R214). -/
theorem exec_encodeInstr_of_misfit (p : Profile) {s : State} (hs : s.phase ≠ .fault)
    (h : s.port.length ≠ (p.layout.map LayoutRow.place).length ∨
      ∃ (k : Nat) (f : Nat × Nat) (v : Word64), (p.layout.map LayoutRow.place)[k]? = some f ∧
        s.port[k]? = some (.word v) ∧ 256 ^ f.2 ≤ v.toNat) :
    exec p.encodeInstr s = .next (s.answered (.refused .badOperand) []) := by
  have hnone : ctxOperands p.layout s.port = none := by
    rw [Option.eq_none_iff_forall_ne_some]
    intro ns hsome
    obtain ⟨vals, hport, -, hlen, hfit⟩ := exists_of_ctxOperands hsome
    rw [hport] at h
    rcases h with h | ⟨k, f, v, hf, hv, hwide⟩
    · rw [List.length_map, List.length_map] at h
      exact h hlen
    · rw [List.getElem?_map, Option.map_eq_some_iff] at hv
      obtain ⟨w, hw, hwv⟩ := hv
      obtain rfl := Operand.word.inj hwv
      have hmem : (f, w) ∈ (p.layout.map LayoutRow.place).zip vals :=
        List.mem_of_getElem? (List.getElem?_zip_eq_some.mpr ⟨hf, hw⟩)
      exact absurd (hfit _ hmem) (Nat.not_lt.mpr hwide)
  rw [exec_encodeInstr, admit_of_check (check_beforeFault hs), ctxEncode_of_none hnone]
  rfl

/-- Settles O32: operands that are read have the table's count and widths. -/
theorem ctxEncodeRefusesMisfits : Obligations.CtxEncodeRefusesMisfits := by
  intro s hs
  exact ⟨exec_encodeInstr_of_misfit .alt hs, exec_encodeInstr_of_misfit .std hs⟩

/-! ### Unpacking -/

theorem find_layout_of_mem (p : Profile) :
    ∀ r ∈ p.layout, p.layout.find? (fun q => q.field == r.field) = some r := by
  cases p <;> decide

/-- A field of the table is read at its row (R212). -/
theorem ctxRead_of_mem {p : Profile} {r : LayoutRow} (h : r ∈ p.layout) (buf : List Byte) :
    ctxRead p buf r.field = beRead buf r.offset r.size := by
  simp only [ctxRead, find_layout_of_mem p r h]

/-- The raw fields of a record are the big-endian numbers at the rows of the table (R210 to R212). -/
theorem rawFields_ctxRecord (p : Profile) (buf : List Byte) :
    (ctxRecord p buf).rawFields = (p.layout.map LayoutRow.place).map fun f => beRead buf f.1 f.2 := by
  have hmod : (ctxRecord p buf).rawFields = p.layout.map fun r => ctxRead p buf r.field % 256 ^ r.size := by
    cases p <;> rfl
  rw [hmod, List.map_map]
  refine List.map_congr_left fun r hr => ?_
  rw [ctxRead_of_mem hr, Nat.mod_eq_of_lt (beRead_lt _ _ _)]
  rfl

theorem ctxRecord_std_isSome_iff (p : Profile) (buf : List Byte) : (ctxRecord p buf).std.isSome = true ↔ p = .std := by
  cases p
  · exact ⟨nofun, nofun⟩
  · exact ⟨fun _ => rfl, fun _ => rfl⟩

theorem payloadBitDepth_eq (pf : Word64) : payloadBitDepth pf = pf.toNat / 2 ^ 32 % 32 + 1 := by
  rw [payloadBitDepth, BitVec.extractLsb'_toNat, Nat.shiftRight_eq_div_pow]

theorem ctxDecode_of_length {buf : List Byte} {p : Profile} (h : buf.length = p.size) :
    ctxDecode buf = some ⟨p, ctxRecord p buf⟩ := by
  rw [ctxDecode, h, profileOfLength_size]
  rfl

theorem ctxDecode_of_other_length {buf : List Byte} (h72 : buf.length ≠ 72) (h108 : buf.length ≠ 108) :
    ctxDecode buf = none := by
  rw [ctxDecode, profileOfLength, if_neg h72, if_neg h108]
  rfl

/-- CTX_DECODE answers the record of the profile that the length selects (R212). -/
theorem exec_ctxDecode_of_some {s : State} {buf : List Byte} {c : Context} (hs : s.phase ≠ .fault)
    (hport : s.port = [.bytes buf]) (h : ctxDecode buf = some c) :
    exec .ctxDecode s = .next (s.answered (.ok (.context c.profile c.record)) []) := by
  have harg : args1 asBytes s.port = some buf := by rw [hport, args1_singleton, asBytes_bytes]
  simp only [exec, execCtxDecode, admit_beforeFault_of_operands hs harg, h]
  rfl

theorem exec_ctxDecode_of_none {s : State} {buf : List Byte} (hs : s.phase ≠ .fault)
    (hport : s.port = [.bytes buf]) (h : ctxDecode buf = none) :
    exec .ctxDecode s = .next (s.answered (.refused .badLength) []) := by
  have harg : args1 asBytes s.port = some buf := by rw [hport, args1_singleton, asBytes_bytes]
  simp only [exec, execCtxDecode, admit_beforeFault_of_operands hs harg, h]
  rfl

/-- Settles O33: the record is `ctxRecord` of the profile that the length selects. -/
theorem ctxDecodeReadsEveryField : Obligations.CtxDecodeReadsEveryField := by
  intro s buf hs hport
  have hreads (p : Profile) (hlen : buf.length = p.size) :
      ∃ r : ContextRecord, exec .ctxDecode s = .next (s.answered (.ok (.context p r)) []) ∧
        r.rawFields = (p.layout.map LayoutRow.place).map (fun f => beRead buf f.1 f.2) ∧
        (r.std.isSome = true ↔ p = .std) ∧ r.bandwidth = f64OfRatio r.bandwidthRaw.toNat (2 ^ 20) ∧
        r.sampleRate = f64OfRatio r.sampleRateRaw.toNat (2 ^ 20) ∧
        r.bitDepth = r.payloadFormat.toNat / 2 ^ 32 % 32 + 1 :=
    ⟨_, exec_ctxDecode_of_some hs hport (ctxDecode_of_length hlen), rawFields_ctxRecord p buf,
      ctxRecord_std_isSome_iff p buf, fxpToF64_eq _, fxpToF64_eq _, payloadBitDepth_eq _⟩
  exact ⟨hreads .alt, hreads .std, fun h72 h108 =>
    exec_ctxDecode_of_none hs hport (ctxDecode_of_other_length h72 h108)⟩

/-- A packet that holds values at the places of a table reads as them. -/
theorem HoldsFields.map_beRead {b : List Byte} {size : Nat} {fields : List (Nat × Nat)} {vals : List Nat}
    (h : HoldsFields b size fields vals) : fields.map (fun f => beRead b f.1 f.2) = vals := by
  obtain ⟨-, hlen, hread⟩ := h
  calc fields.map (fun f => beRead b f.1 f.2)
      = ((fields.zip vals).map Prod.fst).map fun f => beRead b f.1 f.2 := by rw [List.map_fst_zip hlen.ge]
    _ = (fields.zip vals).map Prod.snd := by
        rw [List.map_map]
        exact List.map_congr_left hread
    _ = vals := List.map_snd_zip hlen.le

/-- CTX_ENCODE answers a packet only in CONFIG or RUN, for values that fit. -/
theorem encodeInstr_of_answer {p : Profile} {s t : State} {b : List Byte} {vals : List Word64}
    (hport : s.port = vals.map Operand.word) (he : exec p.encodeInstr s = .next t)
    (hr : t.response = some (.ok (.bytes b))) :
    t.phase ≠ .fault ∧ HoldsFields b p.size (p.layout.map LayoutRow.place) (vals.map BitVec.toNat) := by
  rw [exec_encodeInstr, Host.Outcome.next.injEq] at he
  subst he
  rcases admit_cases .beforeFault s (s.ctxEncode p) with ⟨c, -, h⟩ | ⟨hcheck, h⟩ <;> rw [h] at hr ⊢
  · cases hr
  · cases hops : ctxOperands p.layout s.port with
    | none =>
      rw [ctxEncode_of_none hops] at hr
      cases hr
    | some ns =>
      rw [ctxEncode_of_some hops] at hr ⊢
      obtain rfl : ctxBytes p ns = b := by
        simpa only [State.ok_response, Option.some.injEq, Response.ok.injEq, Values.bytes.injEq] using hr
      refine ⟨bne_iff_ne.mp (admitted_of_check hcheck).1, ?_⟩
      obtain ⟨ws, hws, rfl, hlen, hfit⟩ := exists_of_ctxOperands hops
      obtain rfl : vals = ws := (List.map_injective_iff.mpr fun _ _ => Operand.word.inj) (hport.symm.trans hws)
      refine ctxBytes_holdsFields (by rw [List.length_map, hlen]) ?_
      rw [← List.map_id (p.layout.map LayoutRow.place), List.zip_map, List.forall_mem_map]
      exact hfit

/-- Settles O34: the packet holds the values at the places from which they are read back. -/
theorem contextRoundTrip : Obligations.ContextRoundTrip := by
  intro s t b vals
  have hback (p : Profile) (he : exec p.encodeInstr { s with port := vals.map Operand.word } = .next t)
      (hr : t.response = some (.ok (.bytes b))) :
      ∃ (r : ContextRecord) (u : State), exec .ctxDecode { t with port := [.bytes b] } = .next u ∧
        u.response = some (.ok (.context p r)) ∧ r.rawFields = vals.map BitVec.toNat := by
    obtain ⟨hphase, hholds⟩ := encodeInstr_of_answer rfl he hr
    refine ⟨ctxRecord p b, _, exec_ctxDecode_of_some hphase rfl (ctxDecode_of_length hholds.1), rfl, ?_⟩
    rw [rawFields_ctxRecord, hholds.map_beRead]
  exact ⟨hback .alt, hback .std⟩

end Sys2Proof.Machine

/-! SUPPORT. The proofs of the statements of 44_tx_framer.md about TX_PUSH (R260 to R265): the loop as a run over the batch
that composes over joined batches, and what a run does that completes no packet or one. -/

namespace Sys2Proof.Machine

open Sys2Proof

/-! ### The run over a batch -/

/-- What taking samples leaves: the packets sent or a fatal error, and the state. -/
abbrev PushResult := Except FatalCode Nat × State

/-- Going on from a result with the packets it has sent, or ending with its fatal error (R265). -/
def pushThen (f : State → PushResult) : PushResult → PushResult
  | (.ok j, u) =>
    match f u with
    | (.ok k, v) => (.ok (j + k), v)
    | (.error e, v) => (.error e, v)
  | (.error e, u) => (.error e, u)

/-- One sample: it is taken, and where it completes a packet the packet is sent (R260). -/
def pushOne (p : Sample) (s : State) : PushResult :=
  if s.txAccCount + 1 = s.cfg.spp then emitPackets (s.takeSample p) else (.ok 0, s.takeSample p)

/-- The samples of a batch, one after another, up to the first fatal error. -/
def pushRun : List Sample → State → PushResult
  | [], s => (.ok 0, s)
  | p :: rest, s => pushThen (pushRun rest) (pushOne p s)

/-- The answer of a run: its counts, or its fatal error. -/
def pushAnswer (consumed packets : Nat) : PushResult → State
  | (.ok j, u) => u.ok (.pushed consumed (packets + j))
  | (.error e, u) => u.raiseFatal e []

theorem pushThen_error (f : State → PushResult) (e : FatalCode) (u : State) :
    pushThen f (.error e, u) = (.error e, u) := rfl

theorem pushThen_ok_ok {f : State → PushResult} {u v : State} {k : Nat} (h : f u = (.ok k, v)) (j : Nat) :
    pushThen f (.ok j, u) = (.ok (j + k), v) := by
  simp only [pushThen, h]

theorem pushThen_ok_error {f : State → PushResult} {u v : State} {e : FatalCode} (h : f u = (.error e, v)) (j : Nat) :
    pushThen f (.ok j, u) = (.error e, v) := by
  simp only [pushThen, h]

theorem pushThen_ok_zero (f : State → PushResult) (u : State) : pushThen f (.ok 0, u) = f u := by
  rcases h : f u with ⟨_ | k, v⟩
  · exact pushThen_ok_error h 0
  · rw [pushThen_ok_ok h, Nat.zero_add]

theorem pushThen_pure (r : PushResult) : pushThen (fun u => (.ok 0, u)) r = r := by
  rcases r with ⟨_ | k, v⟩ <;> rfl

/-- Going on twice is going on once with both. -/
theorem pushThen_assoc (f g : State → PushResult) (r : PushResult) :
    pushThen g (pushThen f r) = pushThen (fun u => pushThen g (f u)) r := by
  rcases r with ⟨e | j, u⟩
  · rfl
  rcases hf : f u with ⟨e | k, v⟩
  · rw [pushThen_ok_error hf, pushThen_error, pushThen_ok_error (by rw [hf, pushThen_error])]
  rcases hg : g v with ⟨e | l, w⟩
  · rw [pushThen_ok_ok hf, pushThen_ok_error hg, pushThen_ok_error (by rw [hf, pushThen_ok_error hg])]
  · rw [pushThen_ok_ok hf, pushThen_ok_ok hg, pushThen_ok_ok (by rw [hf, pushThen_ok_ok hg]), Nat.add_assoc]

/-- The loop of TX_PUSH is the run with the counts so far in front of its own. -/
theorem pushLoop_eq_pushAnswer (batch : List Sample) (c k : Nat) (s : State) :
    pushLoop batch c k s = pushAnswer (c + batch.length) k (pushRun batch s) := by
  induction batch generalizing c k s with
  | nil => rfl
  | cons p rest ih =>
    have hlen : c + (p :: rest).length = c + 1 + rest.length := by
      rw [List.length_cons]
      omega
    rw [pushRun, hlen]
    by_cases hfull : s.txAccCount + 1 = s.cfg.spp
    · rw [pushOne, if_pos hfull]
      rcases he : emitPackets (s.takeSample p) with ⟨e | j, u⟩
      · rw [pushLoop_failed hfull he]
        rfl
      · rw [pushLoop_sent hfull he, ih]
        rcases hr : pushRun rest u with ⟨e | i, v⟩
        · rw [pushThen_ok_error hr]
          rfl
        · rw [pushThen_ok_ok hr, pushAnswer, pushAnswer, Nat.add_assoc k]
    · rw [pushLoop_take hfull, ih, pushOne, if_neg hfull, pushThen_ok_zero]

/-- The samples of a joined batch are those of its parts, one after another. -/
theorem pushRun_append (xs ys : List Sample) (s : State) :
    pushRun (xs ++ ys) s = pushThen (pushRun ys) (pushRun xs s) := by
  induction xs generalizing s with
  | nil => exact (pushThen_ok_zero (pushRun ys) s).symm
  | cons p xs ih =>
    rw [List.cons_append, pushRun, pushRun, pushThen_assoc]
    exact congrArg (pushThen · (pushOne p s)) (funext ih)

theorem pushRun_singleton (p : Sample) (s : State) : pushRun [p] s = pushOne p s := pushThen_pure _

/-! ### Taking samples -/

/-- The accumulator holds exactly the counted samples (R67, R72). -/
def State.AccExact (s : State) : Prop := s.txAcc.length = s.txAccCount.toNat * s.sampleSize

/-- The state with the lanes of a batch at the end of the accumulator. -/
def State.takeAll (s : State) (l : List Sample) : State :=
  { s with
    txAcc := s.txAcc ++ l.flatMap (sampleBytes s.depth)
    txAccCount := s.txAccCount + BitVec.ofNat 32 l.length }

theorem takeAll_nil (s : State) : s.takeAll [] = s := by
  simp [State.takeAll]

theorem takeSample_eq_takeAll {s : State} (h : s.AccExact) (p : Sample) : s.takeSample p = s.takeAll [p] := by
  rw [State.AccExact] at h
  simp only [State.takeSample, State.takeAll, ← h, List.take_length, List.flatMap_cons, List.flatMap_nil,
    List.append_nil]
  rfl

theorem takeAll_takeAll (s : State) (xs ys : List Sample) : (s.takeAll xs).takeAll ys = s.takeAll (xs ++ ys) := by
  simp only [State.takeAll, State.depth, List.flatMap_append, List.append_assoc, List.length_append, BitVec.ofNat_add,
    BitVec.add_assoc]

theorem takeAll_count_toNat {s : State} {l : List Sample} (h : s.txAccCount.toNat + l.length ≤ s.cfg.spp.toNat) :
    (s.takeAll l).txAccCount.toNat = s.txAccCount.toNat + l.length := by
  have hspp := s.cfg.spp.isLt
  change (s.txAccCount + BitVec.ofNat 32 l.length).toNat = _
  rw [BitVec.toNat_add, BitVec.toNat_ofNat]
  omega

theorem State.AccExact.takeAll {s : State} (h : s.AccExact) {l : List Sample}
    (hroom : s.txAccCount.toNat + l.length ≤ s.cfg.spp.toNat) : (s.takeAll l).AccExact := by
  have hsize : (s.takeAll l).sampleSize = s.sampleSize := rfl
  rw [State.AccExact, takeAll_count_toNat hroom, hsize, Nat.add_mul, ← h]
  exact List.length_append.trans (congrArg (s.txAcc.length + ·) (flatMap_sampleBytes_length s.depth l))

theorem count_succ_eq_spp_iff {s : State} (h : s.txAccCount.toNat < s.cfg.spp.toNat) :
    s.txAccCount + 1 = s.cfg.spp ↔ s.txAccCount.toNat + 1 = s.cfg.spp.toNat := by
  have hspp := s.cfg.spp.isLt
  have hone : (1 : Word32).toNat = 1 := rfl
  rw [← BitVec.toNat_inj, BitVec.toNat_add, hone]
  omega

/-- A batch that leaves the packet incomplete is taken, and nothing is sent (R260). -/
theorem pushRun_of_incomplete {s : State} (hacc : s.AccExact) {l : List Sample}
    (hroom : s.txAccCount.toNat + l.length < s.cfg.spp.toNat) : pushRun l s = (.ok 0, s.takeAll l) := by
  induction l generalizing s with
  | nil => rw [takeAll_nil, pushRun]
  | cons p l ih =>
    rw [List.length_cons] at hroom
    have hone : s.txAccCount.toNat + [p].length ≤ s.cfg.spp.toNat := by
      rw [List.length_singleton]
      omega
    have hnot : ¬ s.txAccCount + 1 = s.cfg.spp := by
      rw [count_succ_eq_spp_iff (by omega)]
      omega
    have hrest : (s.takeAll [p]).txAccCount.toNat + l.length < (s.takeAll [p]).cfg.spp.toNat := by
      rw [takeAll_count_toNat hone]
      change s.txAccCount.toNat + 1 + l.length < s.cfg.spp.toNat
      omega
    rw [pushRun, pushOne, if_neg hnot, takeSample_eq_takeAll hacc, pushThen_ok_zero, ih (hacc.takeAll hone) hrest,
      takeAll_takeAll, List.singleton_append]

/-- A batch that completes exactly one packet is taken, and then the packet is sent (R260). -/
theorem pushRun_of_complete {s : State} (hacc : s.AccExact) {l : List Sample} (hne : l ≠ [])
    (hfull : s.txAccCount.toNat + l.length = s.cfg.spp.toNat) : pushRun l s = emitPackets (s.takeAll l) := by
  obtain ⟨init, last, rfl⟩ : ∃ init last, l = init ++ [last] := (List.eq_nil_or_concat' l).resolve_left hne
  rw [List.length_append, List.length_singleton] at hfull
  have hroom : s.txAccCount.toNat + init.length < s.cfg.spp.toNat := by omega
  have hcount := takeAll_count_toNat hroom.le
  have hlast : (s.takeAll init).txAccCount + 1 = (s.takeAll init).cfg.spp := by
    have hlt : (s.takeAll init).txAccCount.toNat < (s.takeAll init).cfg.spp.toNat := hcount ▸ hroom
    rw [count_succ_eq_spp_iff hlt, hcount]
    change s.txAccCount.toNat + init.length + 1 = s.cfg.spp.toNat
    omega
  rw [pushRun_append, pushRun_of_incomplete hacc hroom, pushThen_ok_zero, pushRun_singleton, pushOne, if_pos hlast,
    takeSample_eq_takeAll (hacc.takeAll hroom.le), takeAll_takeAll]

/-! ### Sending a packet -/

theorem contextDue_iff (s : State) :
    s.contextDue = true ↔ s.cfg.ctrl.getLsbD 2 = false ∧ s.txPacketCount.toNat % s.cfg.ctxInterval.toNat = 0 := by
  rw [State.contextDue, Bool.and_eq_true, Bool.not_eq_true', beq_iff_eq]
  rfl

theorem emitContext_of_notDue {s : State} (h : s.contextDue = false) (ts : Timestamp) :
    emitContext s ts = (true, 0, s) := by
  simp only [emitContext, h, Bool.false_eq_true, if_false]

theorem emitContext_accepted {s : State} (h : s.contextDue = true) {d : List Bool} (hd : s.sendDraws = true :: d)
    (ts : Timestamp) : emitContext s ts = (true, 1, (s.sends [s.buildContext ts] d s.sendCount).contextSent) := by
  simp only [emitContext, h, if_true, transmit_accepted hd]

theorem emitContext_rejected {s : State} (h : s.contextDue = true) {d : List Bool} (hd : s.sendDraws = false :: d)
    (ts : Timestamp) : emitContext s ts = (false, 0, s.sends [] d s.sendCount) := by
  simp only [emitContext, h, if_true, transmit_rejected hd]

theorem emitData_accepted {s : State} {d : List Bool} (hd : s.sendDraws = true :: d) (ts : Timestamp) (k : Nat) :
    emitData ts (true, k, s) = (.ok (k + 1), (s.sends [s.dataPacket ts] d s.sendCount).dataSent) := by
  simp only [emitData, transmit_accepted hd]

theorem emitData_rejected {s : State} {d : List Bool} (hd : s.sendDraws = false :: d) (ts : Timestamp) (k : Nat) :
    emitData ts (true, k, s) = (.error .transportSend, s.sends [] d s.sendCount) := by
  simp only [emitData, transmit_rejected hd]

section
variable {s : State} {ts : Timestamp} {draws : List Bool}

/-- The context packet and the data packet, both accepted (R262). -/
theorem emitPackets_of_due (hts : s.advance = some ts) (hdue : s.contextDue = true)
    (hd : s.sendDraws = true :: true :: draws) :
    emitPackets s =
      (.ok 2, (s.contextSent.sends [s.buildContext ts, s.dataPacket ts] draws s.sendCount).dataSent) := by
  rw [emitPackets_some hts, emitContext_accepted hdue hd, sends_contextSent, emitData_accepted (by rfl), sends_sends]
  rfl

/-- The data packet alone, accepted (R262). -/
theorem emitPackets_of_notDue (hts : s.advance = some ts) (hdue : s.contextDue = false)
    (hd : s.sendDraws = true :: draws) :
    emitPackets s = (.ok 1, (s.sends [s.dataPacket ts] draws s.sendCount).dataSent) := by
  rw [emitPackets_some hts, emitContext_of_notDue hdue, emitData_accepted hd]

/-- A first send that is not accepted changes nothing but the draws (R265). -/
theorem emitPackets_of_firstRejected (hts : s.advance = some ts) (hd : s.sendDraws = false :: draws) :
    emitPackets s = (.error .transportSend, s.sends [] draws s.sendCount) := by
  rw [emitPackets_some hts]
  cases hdue : s.contextDue with
  | false => rw [emitContext_of_notDue hdue, emitData_rejected hd]
  | true =>
    rw [emitContext_rejected hdue hd]
    rfl

/-- A context packet that is accepted stays sent where the data packet is not (R265). -/
theorem emitPackets_of_secondRejected (hts : s.advance = some ts) (hdue : s.contextDue = true)
    (hd : s.sendDraws = true :: false :: draws) :
    emitPackets s = (.error .transportSend, s.contextSent.sends [s.buildContext ts] draws s.sendCount) := by
  rw [emitPackets_some hts, emitContext_accepted hdue hd, sends_contextSent, emitData_rejected (by rfl), sends_sends]
  rfl

end

/-- The data packet of a full accumulator holds all of it (R134, R136). -/
theorem dataPacket_of_full {s : State} (hacc : s.AccExact) (hfull : s.txAccCount = s.cfg.spp) (ts : Timestamp) :
    s.dataPacket ts = s.packetFor ts s.txAcc := by
  have hpayload : s.txAcc.take (s.cfg.spp.toNat * s.sampleSize) = s.txAcc := by
    rw [State.AccExact, hfull] at hacc
    rw [← hacc, List.take_length]
  rw [State.dataPacket, hpayload]
  rfl

theorem takeAll_full {s : State} {l : List Sample} (hfull : s.txAccCount.toNat + l.length = s.cfg.spp.toNat) :
    (s.takeAll l).txAccCount = (s.takeAll l).cfg.spp :=
  BitVec.eq_of_toNat_eq ((takeAll_count_toNat hfull.le).trans hfull)

theorem dataPacket_takeAll {s : State} (hacc : s.AccExact) {l : List Sample}
    (hfull : s.txAccCount.toNat + l.length = s.cfg.spp.toNat) (ts : Timestamp) :
    (s.takeAll l).dataPacket ts = s.packetFor ts (s.txAcc ++ l.flatMap (sampleBytes s.cfg.bitDepth.toNat)) :=
  dataPacket_of_full (hacc.takeAll hfull.le) (takeAll_full hfull) ts

/-! ### The context packet -/

/-- The width in bytes of a field, in either table. -/
def CtxField.width : CtxField → Nat
  | .header | .streamId | .tsFull | .cif | .referencePoint | .referenceLevel | .gain | .timestampCalibration
  | .stateAndEvent => 4
  | .classId | .tsFrac | .bandwidth | .ifRefFreq | .rfRefFreq | .ifBandOffset | .sampleRate | .timestampAdjustment
  | .payloadFormat => 8

theorem layout_size_eq_width (p : Profile) : ∀ r ∈ p.layout, r.size = r.field.width := by
  cases p <;> decide

/-- The values of `build_context` fit their fields (R216 to R218). -/
theorem contextValue_lt (s : State) (ts : Timestamp) (f : CtxField) : s.contextValue ts f < 256 ^ f.width := by
  have hclass : s.classId < 256 ^ 8 := by
    have hcode := s.cfg.classCode.isLt
    rw [State.classId]
    omega
  have hformat : (s.depth - 1) * 2 ^ 32 < 256 ^ 8 := by
    have hdepth : s.depth < 2 ^ 32 := s.cfg.bitDepth.isLt
    omega
  cases f with
  | classId => exact hclass
  | payloadFormat => exact hformat
  | _ => exact BitVec.isLt _

/-- A sink's context packet holds the values of its profile's table (R216). -/
theorem buildContext_holdsFields (s : State) (ts : Timestamp) :
    HoldsFields (s.buildContext ts) s.ctxProfile.size (s.ctxProfile.layout.map LayoutRow.place)
      (s.ctxProfile.layout.map fun r => s.contextValue ts r.field) := by
  refine ctxBytes_holdsFields (List.length_map _) ?_
  rw [List.zip_map', List.forall_mem_map]
  intro r hr
  have hlt := contextValue_lt s ts r.field
  rw [← layout_size_eq_width _ r hr] at hlt
  exact hlt

/-- With an encodable bandwidth and sample rate the values are those of the statement's table (R216 to R218). -/
theorem contextValues_alt {s : State} {bw sr : Word64} (hsize : s.cfg.ctxSize = 72)
    (hbw : fxpOfF64 s.cfg.bandwidth = some bw) (hsr : fxpOfF64 s.cfg.sampleRate = some sr) (ts : Timestamp) :
    (Profile.alt.layout.map fun r => s.contextValue ts r.field) = s.altContextFor bw sr := by
  have hheader : s.contextHeader.toNat = s.contextHeaderFor 72 := by
    rw [State.contextHeader, hsize]
    rfl
  simp only [Profile.layout, altLayout, List.map_cons, List.map_nil, State.contextValue, hheader, hbw, hsr,
    Option.getD_some]
  rfl

theorem contextValues_std {s : State} {bw sr : Word64} (hsize : s.cfg.ctxSize = 108)
    (hbw : fxpOfF64 s.cfg.bandwidth = some bw) (hsr : fxpOfF64 s.cfg.sampleRate = some sr) (ts : Timestamp) :
    (Profile.std.layout.map fun r => s.contextValue ts r.field) = s.stdContextFor ts bw sr := by
  have hheader : s.contextHeader.toNat = s.contextHeaderFor 108 := by
    rw [State.contextHeader, hsize]
    rfl
  simp only [Profile.layout, stdLayout, List.map_cons, List.map_nil, State.contextValue, hheader, hbw, hsr,
    Option.getD_some]
  rfl

/-! ### The command -/

/-- Whether TX_PUSH can send: with UDP, or with the link up (R260, R274). -/
def State.Sendable (s : State) : Prop := s.isTcp = false ∨ s.linkUp = true

theorem not_down_of_sendable {s : State} (h : s.Sendable) : ¬ (s.isTcp && !s.linkUp) = true := by
  rcases h with h | h <;> simp [h]

section
variable {s : State} {batch : List Sample} (hs : s.phase = .run) (hd : s.isSource = false)
  (hport : s.port = [.samples batch])

include hs hd hport

/-- TX_PUSH of a running sink is its two checks and the run over the batch (R260). -/
theorem exec_txPush_of_port :
    exec .txPush s = .next
      (if !batch.all s.laneOk then s.refuse .badOperand
        else if s.isTcp && !s.linkUp then s.ok (.pushed 0 0)
        else pushAnswer batch.length 0 (pushRun batch s)) := by
  have harg : args1 asSamples s.port = some batch := by rw [hport, args1_singleton, asSamples_samples]
  rw [exec, execTxPush, admit_of_operands (check_sink hs hd) harg, pushLoop_eq_pushAnswer, Nat.zero_add]

theorem exec_txPush_of_batch (hlanes : ∀ p ∈ batch, s.laneOk p = true) (hlink : s.Sendable) :
    exec .txPush s = .next (pushAnswer batch.length 0 (pushRun batch s)) := by
  have hall : ¬ (!batch.all s.laneOk) = true := by simpa using hlanes
  rw [exec_txPush_of_port hs hd hport, if_neg hall, if_neg (not_down_of_sendable hlink)]

end

/-- Settles O40: the run takes every sample and sends nothing. -/
theorem txPushAccumulates : Obligations.TxPushAccumulates := by
  intro s batch hs hd hport hlanes hlink hacc hroom
  rw [exec_txPush_of_batch hs hd hport hlanes hlink, pushRun_of_incomplete hacc hroom]
  rfl

/-- Settles O41: the run is `emit_packets` on the full accumulator, its draws accepted. -/
theorem txPushSendsAFullPacket : Obligations.TxPushSendsAFullPacket := by
  intro s batch ts draws hs hd hport hlanes hlink hne hacc hfull hts due packet sent
  have hexec := exec_txPush_of_batch hs hd hport hlanes hlink
  rw [pushRun_of_complete hacc hne hfull] at hexec
  have htake : (s.takeAll batch).advance = some ts := hts
  have hpacket : (s.takeAll batch).dataPacket ts = packet := dataPacket_takeAll hacc hfull ts
  refine ⟨fun hdue hdraws => ?_, fun hdue hdraws => ?_, fun bw sr hdepth hbw hsr => ⟨fun hsize => ?_, fun hsize => ?_⟩⟩
  · rw [hexec, emitPackets_of_due htake ((contextDue_iff _).mpr hdue) hdraws, hpacket]
    rfl
  · have hnot : (s.takeAll batch).contextDue = false := Bool.eq_false_iff.mpr fun h => hdue ((contextDue_iff _).mp h)
    rw [hexec, emitPackets_of_notDue htake hnot hdraws, hpacket]
    rfl
  · have hholds := buildContext_holdsFields s ts
    rw [State.ctxProfile, if_pos hsize, contextValues_alt hsize hbw hsr] at hholds
    exact hholds
  · have hne : ¬ s.cfg.ctxSize = 72 := by
      rw [hsize]
      decide
    have hholds := buildContext_holdsFields s ts
    rw [State.ctxProfile, if_neg hne, contextValues_std hsize hbw hsr] at hholds
    exact hholds

/-- A run that ends in a fatal error takes no later sample (R265). -/
theorem pushRun_append_of_error {xs : List Sample} {s u : State} {e : FatalCode} (h : pushRun xs s = (.error e, u))
    (ys : List Sample) : pushRun (xs ++ ys) s = (.error e, u) := by
  rw [pushRun_append, h, pushThen_error]

/-- Settles O42: the run ends in the fatal error of `emit_packets` on the full accumulator. -/
theorem txPushSendFailureIsFatal : Obligations.TxPushSendFailureIsFatal := by
  intro s batch later hs hd hport hlanes hlink hne hacc hfull due full
  have hexec := exec_txPush_of_batch hs hd hport hlanes hlink
  have hrun := pushRun_of_complete hacc hne hfull
  have hfatal {u : State} {e : FatalCode} (he : emitPackets (s.takeAll batch) = (.error e, u)) :
      exec .txPush s = .next (u.raiseFatal e []) := by
    rw [hexec, pushRun_append_of_error (hrun.trans he)]
    rfl
  refine ⟨fun _ hinf => ?_, fun ts draws hts => ?_⟩
  · have hnone : (s.takeAll batch).advance = none := advance_of_infinite hinf
    exact hfatal (emitPackets_none hnone)
  · have htake : (s.takeAll batch).advance = some ts := hts
    refine ⟨fun hdraws => ?_, fun hdue hdraws => ?_⟩
    · rw [hfatal (emitPackets_of_firstRejected htake hdraws), State.sends, List.append_nil]
      rfl
    · rw [hfatal (emitPackets_of_secondRejected htake ((contextDue_iff _).mpr hdue) hdraws)]
      rfl

theorem laneOk_iff (s : State) (p : Sample) :
    s.laneOk p = true ↔
      -2 ^ (s.cfg.bitDepth.toNat - 1) ≤ p.1 ∧ p.1 ≤ 2 ^ (s.cfg.bitDepth.toNat - 1) - 1 ∧
        -2 ^ (s.cfg.bitDepth.toNat - 1) ≤ p.2 ∧ p.2 ≤ 2 ^ (s.cfg.bitDepth.toNat - 1) - 1 := by
  rw [State.laneOk, Bool.and_eq_true, laneInRange, laneInRange, decide_eq_true_eq, decide_eq_true_eq, and_assoc]
  rfl

/-- Settles O43: the two clauses are the two checks of the command. -/
theorem txPushRefusesOrMakesZeroProgress : Obligations.TxPushRefusesOrMakesZeroProgress := by
  intro s batch hs hd hport half inRange
  have hlanes (p : Sample) : s.laneOk p = true ↔ inRange p := laneOk_iff s p
  rw [exec_txPush_of_port hs hd hport]
  refine ⟨fun ⟨p, hp, hout⟩ => ?_, fun hall htcp hlink => ?_⟩
  · have hbad : (!batch.all s.laneOk) = true := by
      rw [Bool.not_eq_true', ← Bool.not_eq_true, List.all_eq_true]
      exact fun hall => hout ((hlanes p).mp (hall p hp))
    rw [if_pos hbad]
    rfl
  · have hgood : ¬ (!batch.all s.laneOk) = true := by
      rw [Bool.not_eq_true, Bool.not_eq_false', List.all_eq_true]
      exact fun p hp => (hlanes p).mpr (hall p hp)
    have hdown : (s.isTcp && !s.linkUp) = true := by
      rw [hlink, Bool.not_false, Bool.and_true]
      exact htcp
    rw [if_neg hgood, if_pos hdown]
    rfl

end Sys2Proof.Machine

/-! SUPPORT. The proofs of the statements of 44_tx_framer.md about several packets: joined batches (R260, R265) and the first
eight samples (R267). -/

namespace Sys2Proof.Machine

open Sys2Proof

/-! ### Ports and answers do not matter to a run -/

/-- The state with another operand port and another answer. -/
def State.overlay (s : State) (port : List Operand) (r : Option Response) (evs : List Event) : State :=
  { s with port := port, response := r, events := evs }

section
variable {s t : State} (port : List Operand) (r : Option Response) (evs : List Event)

theorem transmit_overlay {packet : List Byte} {b : Bool} (h : transmit s packet = (b, t)) :
    transmit (s.overlay port r evs) packet = (b, t.overlay port r evs) := by
  rcases hd : s.sendDraws with _ | ⟨_ | _, d⟩
  · cases hc : Config.sendOk s.sendCount <;> simp only [transmit, State.drawSend, State.overlay, hd, hc] at h ⊢ <;>
      cases h <;> rfl
  · rw [transmit_rejected hd] at h
    rw [transmit_rejected (by exact hd)]
    cases h
    rfl
  · rw [transmit_accepted hd] at h
    rw [transmit_accepted (by exact hd)]
    cases h
    rfl

theorem emitContext_overlay {ts : Timestamp} {b : Bool} {k : Nat} (h : emitContext s ts = (b, k, t)) :
    emitContext (s.overlay port r evs) ts = (b, k, t.overlay port r evs) := by
  have hsame : (s.overlay port r evs).contextDue = s.contextDue ∧
      (s.overlay port r evs).buildContext ts = s.buildContext ts := ⟨rfl, rfl⟩
  cases hdue : s.contextDue with
  | false =>
    rw [emitContext_of_notDue hdue] at h
    rw [emitContext_of_notDue (hsame.1.trans hdue)]
    cases h
    rfl
  | true =>
    rcases ht : transmit s (s.buildContext ts) with ⟨_ | _, u⟩ <;>
      simp only [emitContext, hsame, hdue, if_true, ht, transmit_overlay port r evs ht] at h ⊢ <;> cases h <;> rfl

theorem emitData_overlay {ts : Timestamp} {b : Bool} {k : Nat} {res : Except FatalCode Nat}
    (h : emitData ts (b, k, s) = (res, t)) :
    emitData ts (b, k, s.overlay port r evs) = (res, t.overlay port r evs) := by
  cases b with
  | false =>
    cases h
    rfl
  | true =>
    have hsame : (s.overlay port r evs).dataPacket ts = s.dataPacket ts := rfl
    rcases ht : transmit s (s.dataPacket ts) with ⟨_ | _, u⟩ <;>
      simp only [emitData, hsame, ht, transmit_overlay port r evs ht] at h ⊢ <;> cases h <;> rfl

theorem emitPackets_overlay {res : Except FatalCode Nat} (h : emitPackets s = (res, t)) :
    emitPackets (s.overlay port r evs) = (res, t.overlay port r evs) := by
  have hsame : (s.overlay port r evs).advance = s.advance := rfl
  cases ha : s.advance with
  | none =>
    rw [emitPackets_none ha] at h
    rw [emitPackets_none (hsame.trans ha)]
    cases h
    rfl
  | some ts =>
    rw [emitPackets_some ha] at h
    rw [emitPackets_some (hsame.trans ha)]
    rcases hc : emitContext s ts with ⟨b, k, u⟩
    rw [hc] at h
    rw [emitContext_overlay port r evs hc]
    exact emitData_overlay port r evs h

theorem pushOne_overlay {p : Sample} {res : Except FatalCode Nat} (h : pushOne p s = (res, t)) :
    pushOne p (s.overlay port r evs) = (res, t.overlay port r evs) := by
  unfold pushOne at h
  by_cases hfull : s.txAccCount + 1 = s.cfg.spp
  · rw [if_pos hfull] at h
    exact (if_pos hfull).trans (emitPackets_overlay port r evs h)
  · rw [if_neg hfull] at h
    cases h
    exact if_neg hfull

theorem pushRun_overlay {batch : List Sample} {res : Except FatalCode Nat} (h : pushRun batch s = (res, t)) :
    pushRun batch (s.overlay port r evs) = (res, t.overlay port r evs) := by
  induction batch generalizing s res with
  | nil =>
    cases h
    rfl
  | cons p rest ih =>
    rw [pushRun] at h ⊢
    rcases hone : pushOne p s with ⟨e | j, u⟩ <;> rw [hone] at h <;> rw [pushOne_overlay port r evs hone]
    · cases h
      rfl
    · rcases hrest : pushRun rest u with ⟨e | k, v⟩
      · rw [pushThen_ok_error hrest] at h
        cases h
        exact pushThen_ok_error (ih hrest) j
      · rw [pushThen_ok_ok hrest] at h
        cases h
        exact pushThen_ok_ok (ih hrest) j

end

/-! ### Joined batches -/

/-- A run changes neither the configuration nor the link. -/
theorem pushRun_frame {batch : List Sample} {s t : State} {res : Except FatalCode Nat}
    (h : pushRun batch s = (res, t)) : t.cfg = s.cfg ∧ t.linkUp = s.linkUp := by
  induction batch generalizing s res with
  | nil =>
    cases h
    exact ⟨rfl, rfl⟩
  | cons p rest ih =>
    have hone : (pushOne p s).2.cfg = s.cfg ∧ (pushOne p s).2.linkUp = s.linkUp := by
      unfold pushOne
      split
      · rcases emitPackets_cases (s.takeSample p) with ⟨-, he⟩ | ⟨r, ps, d, n, rfl | rfl, he | ⟨j, he⟩⟩ <;> rw [he] <;>
          exact ⟨rfl, rfl⟩
      · exact ⟨rfl, rfl⟩
    rw [pushRun] at h
    rcases hp : pushOne p s with ⟨e | j, u⟩ <;> rw [hp] at h hone
    · cases h
      exact hone
    · rcases hrest : pushRun rest u with ⟨e | k, v⟩
      · rw [pushThen_ok_error hrest] at h
        cases h
        exact ⟨(ih hrest).1.trans hone.1, (ih hrest).2.trans hone.2⟩
      · rw [pushThen_ok_ok hrest] at h
        cases h
        exact ⟨(ih hrest).1.trans hone.1, (ih hrest).2.trans hone.2⟩

/-- A TX_PUSH that is not refused was admitted, and its batch in range. -/
theorem txPush_of_not_refused {s t : State} {batch : List Sample} (hport : s.port = [.samples batch])
    (he : exec .txPush s = .next t) (hr : ∀ c, t.response ≠ some (.refused c)) :
    s.phase = .run ∧ s.isSource = false ∧ ∀ p ∈ batch, s.laneOk p = true := by
  cases hcheck : Admission.check .sink s with
  | some c =>
    rw [exec_of_refusal (i := .txPush) hcheck, Host.Outcome.next.injEq] at he
    subst he
    exact absurd rfl (hr c)
  | none =>
    obtain ⟨hp, hd⟩ := admitted_of_check hcheck
    have hs : s.phase = .run := beq_iff_eq.mp hp
    rw [Admission.directionOk, Bool.not_eq_true'] at hd
    refine ⟨hs, hd, ?_⟩
    by_contra hout
    have hbad : (!batch.all s.laneOk) = true := by
      rwa [Bool.not_eq_true', ← Bool.not_eq_true, List.all_eq_true]
    rw [exec_txPush_of_port hs hd hport, if_pos hbad, Host.Outcome.next.injEq] at he
    subst he
    exact hr .badOperand rfl

/-- A TX_PUSH that is not refused, with the link usable, is the run from the state whatever its port. -/
theorem eq_pushAnswer_of_not_refused {s t w : State} {batch : List Sample} {res : Except FatalCode Nat}
    (hlink : s.Sendable) (he : exec .txPush { s with port := [.samples batch] } = .next t)
    (hr : ∀ c, t.response ≠ some (.refused c)) (hrun : pushRun batch s = (res, w)) :
    t = pushAnswer batch.length 0 (res, w.overlay [.samples batch] s.response s.events) := by
  obtain ⟨hs, hd, hlanes⟩ := txPush_of_not_refused rfl he hr
  have hexec := exec_txPush_of_batch hs hd rfl hlanes hlink
  rw [← pushRun_overlay [.samples batch] s.response s.events hrun]
  exact Host.Outcome.next.inj (he.symm.trans hexec)

theorem laneOk_congr {s t : State} (h : t.cfg = s.cfg) (p : Sample) : t.laneOk p = s.laneOk p := by
  rw [State.laneOk, State.laneOk, State.depth_congr h]

theorem State.Sendable.congr {s t : State} (h : s.Sendable) (hcfg : t.cfg = s.cfg) (hup : t.linkUp = s.linkUp) :
    t.Sendable :=
  h.imp (State.isTcp_congr hcfg).trans hup.trans

/-- Settles O44: the run over the joined batch is the second run after the first, and neither port nor answer matters to
it. -/
theorem txPushOfAJoinedBatch : Obligations.TxPushOfAJoinedBatch := by
  intro s t u xs ys c1 k1 hlink hxs hpushed hys
  have hfirst : ∀ c, t.response ≠ some (.refused c) := by
    rw [hpushed]
    exact nofun
  obtain ⟨hs, hd, hlanesx⟩ := txPush_of_not_refused rfl hxs hfirst
  rcases hrunx : pushRun xs s with ⟨e | j, v⟩ <;>
    have ht := eq_pushAnswer_of_not_refused hlink hxs hfirst hrunx <;> subst ht
  · cases hpushed
  obtain ⟨rfl, rfl⟩ : xs.length = c1 ∧ 0 + j = k1 := by
    simpa only [pushAnswer, State.ok_response, Option.some.injEq, Response.ok.injEq, Values.pushed.injEq] using hpushed
  obtain ⟨hcfg, hup⟩ := pushRun_frame hrunx
  rcases hruny : pushRun ys v with ⟨res, w⟩
  have hjoined : pushRun (xs ++ ys) s = pushThen (pushRun ys) (.ok j, v) := by rw [pushRun_append, hrunx]
  -- Neither push is refused, so the lanes of both are in range and the second is its run.
  have hsecond (hnot : ∀ c, u.response ≠ some (.refused c)) :
      u = pushAnswer ys.length 0 (res, w.overlay [.samples ys] (some (.ok (.pushed xs.length (0 + j)))) []) ∧
        ∀ p ∈ xs ++ ys, s.laneOk p = true := by
    obtain ⟨-, -, hlanesy⟩ := txPush_of_not_refused rfl hys hnot
    have hlinkFirst : State.Sendable (pushAnswer xs.length 0 (.ok j, v.overlay [.samples xs] s.response s.events)) :=
      State.Sendable.congr hlink hcfg hup
    have hrun := pushRun_overlay [.samples xs] (some (.ok (.pushed xs.length (0 + j)))) [] hruny
    have hu := eq_pushAnswer_of_not_refused hlinkFirst hys hnot (w := State.overlay w [.samples xs] _ []) hrun
    refine ⟨hu, fun p hp => ?_⟩
    rcases List.mem_append.mp hp with hp | hp
    · exact hlanesx p hp
    · exact (laneOk_congr hcfg p).symm.trans (hlanesy p hp)
  have hexec (hlanes : ∀ p ∈ xs ++ ys, s.laneOk p = true) {r : Except FatalCode Nat}
      (hrun : pushThen (pushRun ys) (.ok j, v) = (r, w)) :
      exec .txPush { s with port := [.samples (xs ++ ys)] } = .next
        (pushAnswer (xs ++ ys).length 0 (r, w.overlay [.samples (xs ++ ys)] s.response s.events)) := by
    rw [← pushRun_overlay [.samples (xs ++ ys)] s.response s.events (hjoined.trans hrun)]
    exact exec_txPush_of_batch hs hd rfl hlanes hlink
  refine ⟨fun c2 k2 hr => ?_, fun c hr => ?_⟩
  · obtain ⟨hu, hlanes⟩ := hsecond (by rw [hr]; exact nofun)
    subst hu
    cases res with
    | error e => cases hr
    | ok k =>
      obtain ⟨rfl, rfl⟩ : ys.length = c2 ∧ 0 + k = k2 := by
        simpa only [pushAnswer, State.ok_response, Option.some.injEq, Response.ok.injEq, Values.pushed.injEq] using hr
      rw [hexec hlanes (pushThen_ok_ok hruny j), List.length_append, Nat.zero_add, Nat.zero_add]
      simp only [pushAnswer, Nat.zero_add]
      rfl
  · obtain ⟨hu, hlanes⟩ := hsecond (by rw [hr]; exact nofun)
    subst hu
    cases res with
    | ok k => cases hr
    | error e =>
      rw [hexec hlanes (pushThen_ok_error hruny j)]
      rfl

/-! ### The first eight samples -/

theorem beRead_zero_of_beBytes (n v : Nat) (rest : List Byte) (h : v < 256 ^ n) :
    beRead (beBytes n v ++ rest) 0 n = v := by
  rw [beRead, List.drop_zero, List.take_left' (beBytes_length n v), beNat_beBytes, Nat.mod_eq_of_lt h]

/-- A header word of a positioned static pattern shows the pattern's kind and the sequence (R190). -/
theorem headerWord_kind_sequence {static seq wc : Word32} (hstatic : static.toNat % 2 ^ 20 = 0) (hseq : seq.toNat ≤ 15)
    (hwc : wc.toNat ≤ 0xFFFF) :
    (headerWord static seq wc).toNat / 2 ^ 28 = static.toNat / 2 ^ 28 ∧
      (headerWord static seq wc).toNat / 2 ^ 16 % 16 = seq.toNat := by
  rw [headerWord_toNat hstatic hseq hwc]
  omega

theorem toNat_setWidth_seq (x : BitVec 4) : (x.setWidth 32 : Word32).toNat = x.toNat ∧ x.toNat ≤ 15 := by
  have hx := x.isLt
  rw [BitVec.toNat_setWidth]
  omega

/-- The header of a data packet of at most 2^16 - 1 words shows the kind of TX_STATIC and the sequence (R136, R198). -/
theorem dataPacket_header {s : State} (hstatic : s.txStatic.toNat % 2 ^ 20 = 0) (hlen : s.dataLength / 4 ≤ 0xFFFF)
    (ts : Timestamp) :
    unitKind (s.dataPacket ts) = s.txStatic.toNat / 2 ^ 28 ∧
      beRead (s.dataPacket ts) 0 4 / 2 ^ 16 % 16 = s.txSeq.toNat := by
  have hread : beRead (s.dataPacket ts) 0 4 = s.dataHeader.toNat := by
    simp only [State.dataPacket, List.append_assoc]
    exact beRead_zero_of_beBytes 4 _ _ s.dataHeader.isLt
  obtain ⟨hseq, hle⟩ := toNat_setWidth_seq s.txSeq
  have hwc : (BitVec.ofNat 32 (s.dataLength / 4)).toNat ≤ 0xFFFF := by
    rw [BitVec.toNat_ofNat]
    omega
  obtain ⟨hkind, hsequence⟩ := headerWord_kind_sequence hstatic (hseq.trans_le hle) hwc
  rw [unitKind, hread]
  exact ⟨hkind, hsequence.trans hseq⟩

/-- The header of a context packet shows the kind of CFG_CTX_STATIC (R199). -/
theorem buildContext_kind {s : State} (hstatic : s.cfg.ctxStatic.toNat % 2 ^ 20 = 0)
    (hsize : s.cfg.ctxSize = 72 ∨ s.cfg.ctxSize = 108) (ts : Timestamp) :
    unitKind (s.buildContext ts) = s.cfg.ctxStatic.toNat / 2 ^ 28 := by
  have hread : beRead (s.buildContext ts) 0 4 = s.contextHeader.toNat := by
    obtain ⟨-, -, hfields⟩ := buildContext_holdsFields s ts
    refine hfields ((0, 4), s.contextHeader.toNat) ?_
    cases s.ctxProfile <;> exact List.mem_cons_self ..
  obtain ⟨hseq, hle⟩ := toNat_setWidth_seq s.ctxSeq
  have hwc : (BitVec.ofNat 32 (s.cfg.ctxSize.toNat / 4)).toNat ≤ 0xFFFF := by
    rcases hsize with h | h <;> rw [h] <;> decide
  rw [unitKind, hread]
  exact (headerWord_kind_sequence hstatic (hseq.trans_le hle) hwc).1

/-- With no sample counted a run does not read what the accumulator holds (R72). -/
theorem pushRun_of_count_zero {s : State} (h : s.txAccCount = 0) {batch : List Sample} (hne : batch ≠ []) :
    pushRun batch s = pushRun batch { s with txAcc := [] } := by
  cases batch with
  | nil => exact absurd rfl hne
  | cons p rest =>
    have htake : s.takeSample p = State.takeSample { s with txAcc := [] } p := by
      have hnone : s.txAccCount.toNat * s.sampleSize = 0 := by
        rw [h]
        exact Nat.zero_mul _
      have hzero : s.txAcc.take (s.txAccCount.toNat * s.sampleSize) = [] := by rw [hnone, List.take_zero]
      simp only [State.takeSample, hzero, List.take_nil]
      rfl
    rw [pushRun, pushRun, pushOne, pushOne, htake]

/-- A batch that completes one packet from an empty accumulator, context packet and data packet accepted. -/
theorem pushRun_packet_of_due {s : State} {batch : List Sample} {ts : Timestamp} {draws : List Bool}
    (hacc : s.txAcc = []) (hcount : s.txAccCount = 0) (hlen : batch.length = s.cfg.spp.toNat) (hne : batch ≠ [])
    (hts : s.advance = some ts) (hdue : s.contextDue = true) (hd : s.sendDraws = true :: true :: draws) :
    pushRun batch s = (.ok 2, ((s.takeAll batch).contextSent.sends
      [s.buildContext ts, (s.takeAll batch).dataPacket ts] draws s.sendCount).dataSent) := by
  have hzero : s.txAccCount.toNat = 0 := by
    rw [hcount]
    rfl
  have hexact : s.AccExact := by rw [State.AccExact, hacc, hzero, Nat.zero_mul, List.length_nil]
  rw [pushRun_of_complete hexact hne (by rw [hzero, Nat.zero_add, hlen])]
  exact emitPackets_of_due (s := s.takeAll batch) hts hdue hd

/-- The same where no context packet is due. -/
theorem pushRun_packet_of_notDue {s : State} {batch : List Sample} {ts : Timestamp} {draws : List Bool}
    (hacc : s.txAcc = []) (hcount : s.txAccCount = 0) (hlen : batch.length = s.cfg.spp.toNat) (hne : batch ≠ [])
    (hts : s.advance = some ts) (hdue : s.contextDue = false) (hd : s.sendDraws = true :: draws) :
    pushRun batch s =
      (.ok 1, ((s.takeAll batch).sends [(s.takeAll batch).dataPacket ts] draws s.sendCount).dataSent) := by
  have hzero : s.txAccCount.toNat = 0 := by
    rw [hcount]
    rfl
  have hexact : s.AccExact := by rw [State.AccExact, hacc, hzero, Nat.zero_mul, List.length_nil]
  rw [pushRun_of_complete hexact hne (by rw [hzero, Nat.zero_add, hlen])]
  exact emitPackets_of_notDue (s := s.takeAll batch) hts hdue hd

/-- Settles O45: the batch is two packets' samples; before the first the packet count is 0, a multiple of the interval, and
before the second it is 1. -/
theorem firstEightSamplesEndToEnd : Obligations.FirstEightSamplesEndToEnd := by
  intro s batch draws hs hd hmode hlink hspp hdepth hinterval hsize hcount hpackets hseq hstatic hctxKind hdataKind
    hctxStatic ⟨ts0, hts0⟩ ⟨ts1, hts1⟩ hdraws hlen hlanes hport
  have hfour : s.cfg.spp.toNat = 4 := by
    rw [hspp]
    rfl
  have hfirst : (batch.take 4).length = s.cfg.spp.toNat := by rw [List.length_take, hlen, hfour]; rfl
  have hsecond : (batch.drop 4).length = s.cfg.spp.toNat := by rw [List.length_drop, hlen, hfour]
  have hfirstNe : batch.take 4 ≠ [] := List.ne_nil_of_length_eq_add_one (hfirst.trans hfour)
  have hsecondNe : batch.drop 4 ≠ [] := List.ne_nil_of_length_eq_add_one (hsecond.trans hfour)
  have hdue0 : s.contextDue = true := by
    rw [contextDue_iff, hpackets]
    exact ⟨hmode, Nat.zero_mod _⟩
  let first := State.takeAll { s with txAcc := [] } (batch.take 4)
  let ctx := State.buildContext { s with txAcc := [] } ts0
  let p0 := first.dataPacket ts0
  have hrun0 := pushRun_packet_of_due (s := { s with txAcc := [] }) rfl hcount hfirst hfirstNe hts0 hdue0 hdraws
  rw [← pushRun_of_count_zero hcount hfirstNe] at hrun0
  obtain ⟨s1, hrun0, hcfg1, hacc1, hcount1, hpackets1, hseq1, hstatic1, hts1, hdraws1, hegress1⟩ :
      ∃ s1 : State, pushRun (batch.take 4) s = (.ok 2, s1) ∧ s1.cfg = s.cfg ∧ s1.txAcc = [] ∧ s1.txAccCount = 0 ∧
        s1.txPacketCount = s.txPacketCount + 1 ∧ s1.txSeq = s.txSeq + 1 ∧ s1.txStatic = s.txStatic ∧
        s1.advance = some ts1 ∧ s1.sendDraws = true :: draws ∧ s1.egress = s.egress ++ [ctx, p0] :=
    ⟨_, hrun0, rfl, rfl, rfl, rfl, rfl, rfl, hts1, rfl, rfl⟩
  have hdue1 : s1.contextDue = false := by
    rw [Bool.eq_false_iff, Ne, contextDue_iff, hcfg1, hpackets1, hpackets, hinterval]
    exact fun h => absurd h.2 (by decide)
  have hrun1 := pushRun_packet_of_notDue hacc1 hcount1 (hsecond.trans (by rw [hcfg1])) hsecondNe hts1 hdue1 hdraws1
  have hrun := (pushRun_append (batch.take 4) (batch.drop 4) s).trans
    ((congrArg (pushThen _) hrun0).trans (pushThen_ok_ok hrun1 2))
  rw [List.take_append_drop] at hrun
  have hwords {u : State} (hcfg : u.cfg = s.cfg) : u.dataLength / 4 ≤ 0xFFFF := by
    rw [State.dataLength, State.sampleSize, State.depth, hcfg, hspp, hdepth]
    decide
  obtain ⟨hkind0, hsequence0⟩ := dataPacket_header (s := first) hstatic (hwords rfl) ts0
  obtain ⟨hkind1, hsequence1⟩ := dataPacket_header (s := s1.takeAll (batch.drop 4))
    ((congrArg (·.toNat % 2 ^ 20) hstatic1).trans hstatic) (hwords hcfg1) ts1
  have hctx : unitKind ctx = s.cfg.ctxStatic.toNat / 2 ^ 28 := buildContext_kind hctxStatic hsize ts0
  have hseq0 : first.txSeq = 0 := hseq
  have hseqNext : (s1.takeAll (batch.drop 4)).txSeq = 1 := by
    change s1.txSeq = 1
    rw [hseq1, hseq]
    rfl
  have hstaticNext : (s1.takeAll (batch.drop 4)).txStatic = s.txStatic := hstatic1
  refine ⟨_, ctx, p0, (s1.takeAll (batch.drop 4)).dataPacket ts1,
    (exec_txPush_of_batch hs hd hport hlanes hlink).trans (by rw [hrun]), ?_, ?_, ?_, ?_, ?_, ?_, ?_⟩
  · rw [hlen]
    rfl
  · exact (congrArg (· ++ _) hegress1).trans (List.append_assoc _ _ _)
  · rwa [hctx]
  · exact hkind0.trans hdataKind
  · rw [hkind1, hstaticNext, hdataKind]
  · rw [hsequence0, hseq0]
    rfl
  · rw [hsequence1, hseqNext]
    rfl

end Sys2Proof.Machine

/-! SUPPORT. The proofs of the statements of 45_rx_framer.md: which mismatch a unit meets first is how its receive step ends
(R290, R292, R304, R310), and what an accepted unit leaves. -/

namespace Sys2Proof.Machine

open Sys2Proof

/-! ### The header of a unit -/

theorem unitWord_toNat (u : List Byte) : (BitVec.ofNat 32 (beRead u 0 4)).toNat = beRead u 0 4 := by
  exact Nat.mod_eq_of_lt (beRead_lt u 0 4)

theorem parseHeader_isData_iff (u : List Byte) : (parseHeader u).isData = true ↔ unitKind u = 1 := by
  have h := headerFields_isData (BitVec.ofNat 32 (beRead u 0 4))
  rw [unitWord_toNat] at h
  exact (Bool.eq_iff_iff.mp h).trans decide_eq_true_iff

theorem parseHeader_sequence (u : List Byte) : (parseHeader u).sequence = BitVec.ofNat 4 (beRead u 0 4 / 2 ^ 16) := by
  rw [(parseHeader_fields u).2.1, BitVec.extractLsb', unitWord_toNat, Nat.shiftRight_eq_div_pow]

theorem parseHeader_staticBits (u : List Byte) :
    (parseHeader u).staticBits = BitVec.ofNat 12 (beRead u 0 4 / 2 ^ 20) := by
  obtain ⟨-, -, -, -, hstatic, -⟩ := parseHeader_fields u
  rw [hstatic, BitVec.extractLsb', unitWord_toNat, Nat.shiftRight_eq_div_pow]

/-- The identifier check of a data unit compares numbers (R292). -/
theorem sidCheck_iff {s : State} {u : List Byte} (hlen : 20 ≤ u.length) :
    (s.sidCheck && (parseHeader u).streamId != some s.cfg.expectSid) = true ↔
      s.cfg.ctrl.getLsbD 5 = true ∧ beRead u 4 4 ≠ s.cfg.expectSid.toNat := by
  have hread : (BitVec.ofNat 32 (beRead u 4 4)).toNat = beRead u 4 4 := Nat.mod_eq_of_lt (beRead_lt u 4 4)
  rw [Bool.and_eq_true, streamId_ne_iff hlen, bne_iff_ne, ne_eq, ← BitVec.toNat_inj, hread]
  rfl

/-! ### The context of a unit -/

/-- In either table the payload format is the last field. -/
theorem ctxRecord_bitDepth {p : Profile} {u : List Byte} (hlen : u.length = p.size) :
    (ctxRecord p u).bitDepth = beRead u (u.length - 8) 8 / 2 ^ 32 % 32 + 1 := by
  have hrow : ∃ r ∈ p.layout, r.field = .payloadFormat ∧ r.offset = p.size - 8 ∧ r.size = 8 := by
    cases p <;> decide
  obtain ⟨r, hr, hfield, hoffset, hsize⟩ := hrow
  have hread := ctxRead_of_mem hr u
  rw [hfield, hoffset, hsize, ← hlen] at hread
  have hformat : (ctxRecord p u).payloadFormat.toNat = beRead u (u.length - 8) 8 := by
    have hlt := beRead_lt u (u.length - 8) 8
    rw [← hread] at hlt ⊢
    exact Nat.mod_eq_of_lt hlt
  rw [← hformat]
  exact payloadBitDepth_eq _

/-- A unit of a context's length decodes, and its bit depth stands 8 bytes before its end (R210 to R213). -/
theorem ctxDecode_of_contextLength {u : List Byte} (h : u.length = 72 ∨ u.length = 108) :
    ∃ c, ctxDecode u = some c ∧ c.record.bitDepth = beRead u (u.length - 8) 8 / 2 ^ 32 % 32 + 1 := by
  obtain ⟨p, hp⟩ : ∃ p : Profile, u.length = p.size := h.elim (⟨.alt, ·⟩) (⟨.std, ·⟩)
  exact ⟨_, ctxDecode_of_length hp, ctxRecord_bitDepth hp⟩

/-! ### The receive step by the mismatch a unit meets -/

theorem rxStep_of_short {s : State} {u : List Byte} (h : u.length < 4) (req : Nat) :
    rxStep s u req = mismatch s .dataLength false u.length (dropUnit s) := if_pos h

theorem rxStep_of_data {s : State} {u : List Byte} (h : ¬ u.length < 4) (hkind : unitKind u = 1) (req : Nat) :
    rxStep s u req = rxData s u (parseHeader u) req :=
  (if_neg h).trans (if_pos ((parseHeader_isData_iff u).mpr hkind))

theorem rxStep_of_context {s : State} {u : List Byte} (h : ¬ u.length < 4) (hkind : unitKind u ≠ 1) (req : Nat) :
    rxStep s u req = rxContext s u :=
  (if_neg h).trans (if_neg fun hdata => hkind ((parseHeader_isData_iff u).mp hdata))

theorem rxContext_of_some {s : State} {u : List Byte} {c : Context} (h : ctxDecode u = some c) :
    rxContext s u =
      if c.record.bitDepth ≠ s.depth then mismatch s .ctxBitDepth true u.length (ctxAccept s c u.length)
      else ctxAccept s c u.length [] := by
  rw [rxContext, h]

/-- The receive step of a unit whose first mismatch is `c` (R310): what is forwarded, if anything, is the acceptance. -/
inductive MismatchStep (s : State) (u : List Byte) (req : Nat) : ProtoCode → Prop
  | dataLength (h : rxStep s u req = mismatch s .dataLength false u.length (dropUnit s)) :
      MismatchStep s u req .dataLength
  | ctxLength (h : rxStep s u req = mismatch s .ctxLength false u.length (dropUnit s)) :
      MismatchStep s u req .ctxLength
  | streamId (h : rxStep s u req = mismatch s .streamId true u.length (rxAccept s u (parseHeader u) req)) :
      MismatchStep s u req .streamId
  | ctxBitDepth {c : Context} (hc : ctxDecode u = some c)
      (h : rxStep s u req = mismatch s .ctxBitDepth true u.length (ctxAccept s c u.length)) :
      MismatchStep s u req .ctxBitDepth

/-- How the receive step goes on, by the mismatch the unit meets first and else by its kind. -/
def RxOutcome (s : State) (u : List Byte) (req : Nat) : Option ProtoCode → Prop
  | some c => MismatchStep s u req c
  | none =>
    (unitKind u = 1 ∧ rxStep s u req = rxAccept s u (parseHeader u) req []) ∨
      (unitKind u ≠ 1 ∧ ∃ c, ctxDecode u = some c ∧ rxStep s u req = ctxAccept s c u.length [])

/-- The receive step checks in the order of R388. -/
theorem rxStep_outcome (s : State) (u : List Byte) (req : Nat) : RxOutcome s u req (unitMismatch s u) := by
  unfold unitMismatch
  by_cases hshort : u.length < 4
  · rw [if_pos hshort]
    exact .dataLength (rxStep_of_short hshort req)
  rw [if_neg hshort]
  by_cases hkind : unitKind u = 1
  · have hstep := rxStep_of_data (s := s) hshort hkind req
    rw [if_pos hkind]
    by_cases hlen : u.length < 20
    · rw [if_pos hlen]
      exact .dataLength (hstep.trans (if_pos hlen))
    rw [if_neg hlen]
    replace hstep := hstep.trans (if_neg hlen)
    have hsid := sidCheck_iff (s := s) (not_lt.mp hlen)
    by_cases hbad : s.cfg.ctrl.getLsbD 5 = true ∧ beRead u 4 4 ≠ s.cfg.expectSid.toNat
    · rw [if_pos hbad]
      exact .streamId (hstep.trans (if_pos (hsid.mpr hbad)))
    · rw [if_neg hbad]
      exact .inl ⟨hkind, hstep.trans (if_neg (hbad ∘ hsid.mp))⟩
  · have hstep := rxStep_of_context (s := s) hshort hkind req
    rw [if_neg hkind]
    by_cases hlen : u.length ≠ 72 ∧ u.length ≠ 108
    · rw [if_pos hlen]
      rw [rxContext, ctxDecode_of_other_length hlen.1 hlen.2] at hstep
      exact .ctxLength hstep
    rw [if_neg hlen]
    obtain ⟨c, hc, hdepth⟩ := ctxDecode_of_contextLength (u := u) (by omega)
    rw [rxContext_of_some hc, hdepth] at hstep
    by_cases hbad : beRead u (u.length - 8) 8 / 2 ^ 32 % 32 + 1 ≠ s.cfg.bitDepth.toNat
    · rw [if_pos hbad]
      exact .ctxBitDepth hc (hstep.trans (if_pos hbad))
    · rw [if_neg hbad]
      exact .inr ⟨hkind, c, hc, hstep.trans (if_neg hbad)⟩

theorem rxStep_of_data_accepted {s : State} {u : List Byte} (h : unitMismatch s u = none) (hkind : unitKind u = 1)
    (req : Nat) : rxStep s u req = rxAccept s u (parseHeader u) req [] := by
  have hout := rxStep_outcome s u req
  rw [h] at hout
  obtain ⟨-, hstep⟩ | ⟨hne, -⟩ := hout
  · exact hstep
  · exact absurd hkind hne

theorem rxStep_of_context_accepted {s : State} {u : List Byte} (h : unitMismatch s u = none) (hkind : unitKind u ≠ 1)
    (req : Nat) : ∃ c, ctxDecode u = some c ∧ rxStep s u req = ctxAccept s c u.length [] := by
  have hout := rxStep_outcome s u req
  rw [h] at hout
  obtain ⟨heq, -⟩ | ⟨-, hstep⟩ := hout
  · exact absurd heq hkind
  · exact hstep

theorem mismatchStep_of_some {s : State} {u : List Byte} {c : ProtoCode} (h : unitMismatch s u = some c) (req : Nat) :
    MismatchStep s u req c := by
  have hout := rxStep_outcome s u req
  rwa [h] at hout

/-! ### Acceptance -/

theorem gapEvents_eq (s : State) (u : List Byte) :
    gapEvents s (parseHeader u) u.length =
      if s.rxLastSeq.valid ∧ s.rxLastSeq.value + 1 ≠ BitVec.ofNat 4 (beRead u 0 4 / 2 ^ 16) then
        [Event.gap s.rxOutIndex (BitVec.ofNat 4 (beRead u 0 4 / 2 ^ 16)) (s.rxLastSeq.value + 1) u.length]
      else [] := by
  simp only [gapEvents, parseHeader_sequence, Bool.and_eq_true, bne_iff_ne]

theorem staticEvents_eq (s : State) (u : List Byte) :
    staticEvents s (parseHeader u) =
      if s.rxLastStatic.valid ∧ s.rxLastStatic.value ≠ BitVec.ofNat 12 (beRead u 0 4 / 2 ^ 20) then
        [Event.staticChange s.rxOutIndex (BitVec.ofNat 12 (beRead u 0 4 / 2 ^ 20))]
      else [] := by
  simp only [staticEvents, parseHeader_staticBits, Bool.and_eq_true, bne_iff_ne]

theorem contextEvents_eq (s : State) :
    contextEvents s = s.pending.toList.map fun c => Event.context s.rxOutIndex c.profile c.record := by
  rw [contextEvents]
  cases s.pending <;> rfl

/-- An accepted data unit is answered with its samples and timestamp (R292). -/
theorem rxAccept_respond (s : State) (u : List Byte) (req : Nat) (evs : List Event) :
    (rxAccept s u (parseHeader u) req evs).respond = s.afterData u req evs := by
  rw [RxStep.respond, rxAccept, gapEvents_eq, staticEvents_eq, contextEvents_eq, parseHeader_sequence,
    parseHeader_staticBits]
  rfl

/-- An accepted context unit is held, and a legal timestamp sets the reference (R304, R308). -/
theorem ctxAccept_respond (s : State) (c : Context) (len : Nat) (evs : List Event) :
    (ctxAccept s c len evs).respond = s.afterContext c len evs := by
  unfold ctxAccept State.afterContext
  cases c.record.std with
  | none => rfl
  | some f =>
    by_cases hfrac : f.tsFrac.toNat < picosPerSecond
    · simp only [if_pos hfrac]
      rfl
    · simp only [if_neg hfrac]
      rfl

/-! ### The commands -/

section
variable {s : State} {unit : List Byte} {req : Word32} (hs : s.phase = .run) (hd : s.isSource = true)
  (hport : s.port = [.bytes unit, .word (req.setWidth 64)])

include hs hd hport

theorem exec_rxUnit_of_port : exec .rxUnit s = .next (rxStep s unit req.toNat).respond := by
  have harg : args2 asBytes asU32 s.port = some (unit, req) := by
    rw [hport]
    exact args2_of_some (asBytes_bytes _) (asU32_word _)
  rw [exec, execRxUnit, admit_of_operands (check_source hs hd) harg]

theorem exec_udpRxDatagram_of_port (ht : s.isTcp = false) :
    exec .udpRxDatagram s = .next (rxStep s (unit.take s.rxBufBytes) req.toNat).respond := by
  have harg : args2 asBytes asU32 s.port = some (unit, req) := by
    rw [hport]
    exact args2_of_some (asBytes_bytes _) (asU32_word _)
  rw [exec, execUdpRxDatagram, admit_of_operands (check_sourceUdp hs hd ht) harg]

theorem exec_rxUnit_of_data_accepted (hnone : unitMismatch s unit = none) (hkind : unitKind unit = 1) :
    exec .rxUnit s = .next (s.afterData unit req.toNat []) := by
  rw [exec_rxUnit_of_port hs hd hport, rxStep_of_data_accepted hnone hkind, rxAccept_respond]

end

/-- Settles O47: the receive step of the unit, or of the cut datagram, is its acceptance. -/
theorem acceptedDataUnit : Obligations.AcceptedDataUnit := by
  intro s unit req hs hd hport
  refine ⟨exec_rxUnit_of_data_accepted hs hd hport, fun ht hnone hkind => ?_⟩
  rw [exec_udpRxDatagram_of_port hs hd hport ht, rxStep_of_data_accepted hnone hkind, rxAccept_respond]

/-- Settles O48: the receive step is the acceptance of the decoded context. -/
theorem acceptedContextUnit : Obligations.AcceptedContextUnit := by
  intro s unit req hs hd hport hnone hkind
  obtain ⟨c, hc, hstep⟩ := rxStep_of_context_accepted hnone hkind req.toNat
  exact ⟨c, hc, by rw [exec_rxUnit_of_port hs hd hport, hstep, ctxAccept_respond]⟩

/-! ### The policies -/

/-- CFG_CTRL.POLICY as a number (R45). -/
def Policy.number : Policy → Nat
  | .fail => 0
  | .ignore => 1
  | .warnAndForward => 2
  | .warnAndWithhold => 3

theorem policy_number (s : State) : s.policy.number = s.cfg.ctrl.toNat / 8 % 4 := by
  have hbit (i : Nat) : (s.cfg.ctrl.getLsbD i).toNat = s.cfg.ctrl.toNat / 2 ^ i % 2 := by
    rw [BitVec.getLsbD, Nat.toNat_testBit]
  have h3 : (s.cfg.ctrl.getLsbD 3).toNat = s.cfg.ctrl.toNat / 8 % 2 := hbit 3
  have h4 : (s.cfg.ctrl.getLsbD 4).toNat = s.cfg.ctrl.toNat / 16 % 2 := hbit 4
  have hpolicy : s.policy.number = 2 * (s.cfg.ctrl.getLsbD 4).toNat + (s.cfg.ctrl.getLsbD 3).toNat := by
    rw [State.policy]
    cases s.cfg.ctrl.getLsbD 4 <;> cases s.cfg.ctrl.getLsbD 3 <;> rfl
  omega

theorem policy_of_number {s : State} {p : Policy} (h : s.cfg.ctrl.toNat / 8 % 4 = p.number) : s.policy = p := by
  rw [← policy_number] at h
  revert h
  cases s.policy <;> cases p <;> decide

/-- The state a mismatch leaves that is not forwarded (R310). -/
def State.afterMismatch (s : State) (c : ProtoCode) (len : Nat) : Policy → State
  | .fail => s.faulted (.proto c) []
  | .ignore => s.answered (.ok (.received none)) []
  | .warnAndForward | .warnAndWithhold => s.answered (.ok (.received none)) [.warn (.proto c) len]

theorem mismatch_respond (s : State) (c : ProtoCode) (forwardable : Bool) (len : Nat) (forward : List Event → RxStep)
    (h : s.policy = .warnAndForward → forwardable = false) :
    (mismatch s c forwardable len forward).respond = s.afterMismatch c len s.policy := by
  rcases mismatch_cases s c forwardable len forward with ⟨hp, hm⟩ | ⟨hp, hm⟩ | ⟨hp, hf, -⟩ | ⟨hp, -, hm⟩ | ⟨hp, hm⟩
  · rw [hm, hp]
    rfl
  · rw [hm, hp]
    rfl
  · exact absurd (h hp) (by rw [hf]; decide)
  · rw [hm, hp]
    rfl
  · rw [hm, hp]
    rfl

theorem mismatch_forwarded {s : State} (hp : s.policy = .warnAndForward) (c : ProtoCode) (len : Nat)
    (forward : List Event → RxStep) : mismatch s c true len forward = forward [.warn (.proto c) len] := by
  simp only [mismatch, hp, if_true]

/-- Settles O49: each mismatch is one call of `mismatch`, forwardable for an identifier or a bit depth. -/
theorem mismatchedUnitFollowsThePolicy : Obligations.MismatchedUnitFollowsThePolicy := by
  intro s unit req c hs hd hport hc warning dropped policy
  have hexec := exec_rxUnit_of_port hs hd hport
  have hkept (h : s.policy = .warnAndForward → c = .dataLength ∨ c = .ctxLength) :
      exec .rxUnit s = .next (s.afterMismatch c unit.length s.policy) := by
    rw [hexec]
    congr 1
    cases mismatchStep_of_some hc req.toNat with
    | dataLength hstep | ctxLength hstep =>
      rw [hstep]
      exact mismatch_respond _ _ _ _ _ fun _ => rfl
    | streamId hstep | ctxBitDepth _ hstep =>
      rw [hstep]
      exact mismatch_respond _ _ _ _ _ fun hp => by simpa using h hp
  have hpolicy (p : Policy) (h : policy = p.number) : s.policy = p := policy_of_number h
  refine ⟨fun h => ?_, fun h => ?_, fun h => ?_, fun h hlen => ?_, fun h hsid => ?_, fun h hdepth => ?_⟩
  · have hp := hpolicy .fail h
    rw [hkept (fun h' => nomatch hp.symm.trans h'), hp]
    rfl
  · have hp := hpolicy .ignore h
    rw [hkept (fun h' => nomatch hp.symm.trans h'), hp]
    rfl
  · have hp := hpolicy .warnAndWithhold h
    rw [hkept (fun h' => nomatch hp.symm.trans h'), hp]
    rfl
  · rw [hkept (fun _ => hlen), hpolicy .warnAndForward h]
    rfl
  · subst hsid
    cases mismatchStep_of_some hc req.toNat with | streamId hstep =>
    rw [hexec, hstep, mismatch_forwarded (hpolicy .warnAndForward h), rxAccept_respond]
  · subst hdepth
    cases mismatchStep_of_some hc req.toNat with | ctxBitDepth hx hstep =>
    exact ⟨_, hx, by rw [hexec, hstep, mismatch_forwarded (hpolicy .warnAndForward h), ctxAccept_respond]⟩

end Sys2Proof.Machine

/-! SUPPORT. The proofs of the statements of 45_rx_framer.md about two units in a row (R294) and about the samples on the
wire (R103, R135, R297). -/

namespace Sys2Proof.Machine

open Sys2Proof

/-! ### Gap events -/

/-- Whether an event reports a gap (R295). -/
def Event.isGap : Event → Bool
  | .gap .. => true
  | _ => false

theorem gapEvents_filter_isGap (s : State) (h : PacketHeader) (len : Nat) :
    (gapEvents s h len).filter Event.isGap = gapEvents s h len := by
  unfold gapEvents
  split <;> rfl

theorem staticEvents_filter_isGap (s : State) (h : PacketHeader) : (staticEvents s h).filter Event.isGap = [] := by
  unfold staticEvents
  split <;> rfl

theorem contextEvents_filter_isGap (s : State) : (contextEvents s).filter Event.isGap = [] := by
  unfold contextEvents
  split <;> rfl

/-- The gap events of an accepted data unit are those of its sequence (R292). -/
theorem afterData_filter_isGap (s : State) (u : List Byte) (req : Nat) :
    (s.afterData u req []).events.filter Event.isGap = gapEvents s (parseHeader u) u.length := by
  have hevents : (s.afterData u req []).events =
      [] ++ gapEvents s (parseHeader u) u.length ++ staticEvents s (parseHeader u) ++ contextEvents s := by
    rw [← rxAccept_respond]
    rfl
  rw [hevents, List.nil_append, List.filter_append, List.filter_append, gapEvents_filter_isGap,
    staticEvents_filter_isGap, contextEvents_filter_isGap, List.append_nil, List.append_nil]

theorem ofNat_sequence {x n : Nat} (h : x % 16 = n) : BitVec.ofNat 4 x = BitVec.ofNat 4 n := by
  refine BitVec.eq_of_toNat_eq ?_
  rw [BitVec.toNat_ofNat, BitVec.toNat_ofNat]
  omega

/-- Settles O50: both units are accepted, and the second is compared with the sequence the first has left. -/
theorem skippedSequenceRaisesOneGap : Obligations.SkippedSequenceRaisesOneGap := by
  intro s t u a b req hs hd hnonea hnoneb hkinda hkindb hexeca hexecb isGap
  have hgap : isGap = Event.isGap := by
    funext e
    cases e <;> rfl
  have hacceptb (r : State) (hphase : r.phase = s.phase) (hcfg : r.cfg = s.cfg)
      (hport : r.port = [.bytes b, .word (req.setWidth 64)]) :
      exec .rxUnit r = .next (r.afterData b req.toNat []) := by
    refine exec_rxUnit_of_data_accepted (hphase.trans hs) ((State.isSource_congr hcfg).trans hd) hport ?_ hkindb
    rw [← hnoneb, unitMismatch, unitMismatch, hcfg]
  obtain rfl := Host.Outcome.next.inj (hexeca.symm.trans (exec_rxUnit_of_data_accepted (s := State.overlay s _ _ _)
    hs hd rfl hnonea hkinda))
  obtain rfl := Host.Outcome.next.inj (hexecb.symm.trans (hacceptb _ rfl rfl rfl))
  rw [hgap, afterData_filter_isGap, afterData_filter_isGap]
  refine ⟨fun hlast ha hb => ⟨?_, ?_⟩, fun hlast => ?_⟩
  · rw [gapEvents_eq, ofNat_sequence ha]
    simp only [State.overlay, hlast]
    exact if_pos (by decide)
  · rw [gapEvents_eq, ofNat_sequence hb]
    simp only [State.afterData, ofNat_sequence ha]
    exact if_neg (by decide)
  · rw [gapEvents_eq]
    simp only [State.overlay, hlast]
    exact if_neg fun h => nomatch h.1

/-! ### The lanes of a sample -/

theorem laneBits_eq (bd : Nat) (i : Int) : laneBits bd i = (BitVec.ofInt bd i).toNat := by
  rw [BitVec.toNat_ofInt, laneBits, Nat.cast_pow, Nat.cast_ofNat]

theorem signedLane_toNat {bd : Nat} (hbd : 0 < bd) (x : BitVec bd) : signedLane bd x.toNat = x.toInt := by
  have htwice : 2 ^ bd = 2 * 2 ^ (bd - 1) := by rw [← pow_succ', Nat.sub_add_cancel hbd]
  rw [signedLane, BitVec.toInt_eq_toNat_cond, htwice]
  simp only [Nat.mul_lt_mul_left (Nat.zero_lt_two)]
  rw [← htwice, Nat.cast_pow, Nat.cast_ofNat]

theorem beBytes_byte (x : Byte) : beBytes 1 x.toNat = [x] := by
  rw [beBytes, beBytes, pow_zero, Nat.div_one, BitVec.ofNat_toNat, BitVec.setWidth_eq]

theorem beBytes_halfword (x : BitVec 16) : beBytes 2 x.toNat = [x.extractLsb' 8 8, x.extractLsb' 0 8] := by
  simp only [beBytes, ofNat_div_pow_eq_extractLsb']

/-- The byte at an offset inside a buffer is read (R18). -/
theorem beRead_one {buf : List Byte} {o : Nat} (h : o + 1 ≤ buf.length) : beRead buf o 1 = (buf.getD o 0).toNat := by
  rw [beRead, List.drop_eq_getElem_cons h, List.getD_eq_getElem _ _ h, List.take_succ_cons, List.take_zero]
  simp only [beNat, List.foldl_cons, List.foldl_nil, Nat.zero_mul, Nat.zero_add]

/-- Two bytes are read as the word in which the first stands above the second (R18). -/
theorem beRead_two {buf : List Byte} {o : Nat} (h : o + 2 ≤ buf.length) :
    beRead buf o 2 = (buf.getD o 0 ++ buf.getD (o + 1) 0).toNat := by
  have h0 : o < buf.length := by omega
  have h1 : o + 1 < buf.length := by omega
  rw [beRead, List.drop_eq_getElem_cons h0, List.drop_eq_getElem_cons h1, List.getD_eq_getElem _ _ h0,
    List.getD_eq_getElem _ _ h1, toNat_append_eq_add, List.take_succ_cons, List.take_succ_cons, List.take_zero]
  simp only [beNat, List.foldl_cons, List.foldl_nil, Nat.zero_mul, Nat.zero_add]
  rfl

theorem beRead_append_length (front buf : List Byte) (n : Nat) : beRead (front ++ buf) front.length n = beRead buf 0 n := by
  rw [beRead, List.drop_left, beRead, List.drop_zero]

theorem beRead_append_of_le {front : List Byte} {off n : Nat} (h : off + n ≤ front.length) (buf : List Byte) :
    beRead (front ++ buf) off n = beRead front off n := by
  rw [← beRead_take h, List.take_left]

/-! ### Samples sent and received -/

/-- The bits of a lane fit its bytes where the bit depth is a whole number of bytes (R135). -/
theorem laneBits_lt {b : Nat} (i : Int) : laneBits (8 * b) i < 256 ^ b := by
  rw [laneBits_eq, show 256 = 2 ^ 8 from rfl, ← pow_mul]
  exact BitVec.isLt _

/-- A sample in range is read back from where it was written (R292, R297). -/
theorem sampleAt_append {b : Nat} (hb : 0 < b) {front rest : List Byte} {k : Nat} {p : Sample}
    (hfront : front.length = 20 + 2 * b * k) (hI : laneInRange (8 * b) p.1 = true)
    (hQ : laneInRange (8 * b) p.2 = true) : sampleAt (8 * b) (front ++ (sampleBytes (8 * b) p ++ rest)) k = p := by
  have hbytes : 8 * b / 8 = b := Nat.mul_div_cancel_left b (by decide)
  have hbits : 0 < 8 * b := by omega
  have hreadI : beRead (front ++ (sampleBytes (8 * b) p ++ rest)) (20 + 2 * b * k) b = laneBits (8 * b) p.1 := by
    rw [← hfront, beRead_append_length, sampleBytes, hbytes, List.append_assoc]
    exact beRead_zero_of_beBytes b _ _ (laneBits_lt p.1)
  have hreadQ : beRead (front ++ (sampleBytes (8 * b) p ++ rest)) (20 + 2 * b * k + b) b = laneBits (8 * b) p.2 := by
    have hlen : (front ++ beBytes b (laneBits (8 * b) p.1)).length = 20 + 2 * b * k + b := by
      rw [List.length_append, hfront, beBytes_length]
    rw [← hlen, sampleBytes, hbytes, List.append_assoc, ← List.append_assoc front, beRead_append_length]
    exact beRead_zero_of_beBytes b _ _ (laneBits_lt p.2)
  rw [sampleAt, hbytes, hreadI, hreadQ, signedLane_laneBits _ hbits _ hI, signedLane_laneBits _ hbits _ hQ]

/-- The samples of a batch behind a header are read back in order. -/
theorem map_sampleAt_eq {b : Nat} (hb : 0 < b) {header : List Byte} (hheader : header.length = 20) {batch : List Sample}
    (hlanes : ∀ p ∈ batch, laneInRange (8 * b) p.1 = true ∧ laneInRange (8 * b) p.2 = true) :
    (List.range batch.length).map (sampleAt (8 * b) (header ++ batch.flatMap (sampleBytes (8 * b)))) = batch := by
  refine List.ext_getElem (by rw [List.length_map, List.length_range]) fun k _ hk => ?_
  have hsplit : header ++ batch.flatMap (sampleBytes (8 * b)) =
      (header ++ (batch.take k).flatMap (sampleBytes (8 * b))) ++
        (sampleBytes (8 * b) batch[k] ++ (batch.drop (k + 1)).flatMap (sampleBytes (8 * b))) := by
    rw [List.append_assoc, ← List.flatMap_cons, ← List.drop_eq_getElem_cons hk, ← List.flatMap_append,
      List.take_append_drop]
  have hfront : (header ++ (batch.take k).flatMap (sampleBytes (8 * b))).length = 20 + 2 * b * k := by
    rw [List.length_append, flatMap_sampleBytes_length, hheader, List.length_take_of_le hk.le,
      Nat.mul_div_cancel_left b (by decide)]
    ring
  obtain ⟨hI, hQ⟩ := hlanes _ (List.getElem_mem hk)
  rw [List.getElem_map, List.getElem_range, hsplit, sampleAt_append hb hfront hI hQ]

/-- Settles O51: each lane's bytes are those of its two's complement, and the unit is accepted with as many samples as the
batch has. -/
theorem sentSamplesAreReceived : Obligations.SentSamplesAreReceived := by
  refine ⟨fun i q => ⟨?_, ?_⟩, fun unit k => ⟨fun hlen => ?_, fun hlen => ?_⟩, ?_⟩
  · simp only [sampleBytes, laneBits_eq]
    rw [Nat.div_self (by decide), beBytes_byte, beBytes_byte]
    rfl
  · simp only [sampleBytes, laneBits_eq]
    rw [show 16 / 8 = 2 from rfl, beBytes_halfword, beBytes_halfword]
    rfl
  · simp only [sampleAt]
    rw [Nat.div_self (by decide), Nat.mul_one, beRead_one (by omega), beRead_one (by omega),
      signedLane_toNat (by decide), signedLane_toNat (by decide)]
  · simp only [sampleAt]
    rw [show 16 / 8 = 2 from rfl, show 2 * 2 = 4 from rfl, beRead_two (by omega), beRead_two (by omega),
      signedLane_toNat (by decide), signedLane_toNat (by decide)]
  · intro s t header batch req hs hd hdepth hheader hkind hlanes hreq unit hnone hport hexec
    obtain ⟨b, hb, hbits⟩ : ∃ b, 0 < b ∧ s.cfg.bitDepth.toNat = 8 * b := by
      rcases hdepth with h | h <;> rw [h]
      · exact ⟨1, by decide, rfl⟩
      · exact ⟨2, by decide, rfl⟩
    have hunitKind : unitKind unit = 1 := by
      rw [← hkind, unitKind, unitKind, beRead_append_of_le (by omega)]
    have hcount : min ((unit.length - 20) / (2 * (s.cfg.bitDepth.toNat / 8))) req.toNat = batch.length := by
      have hunit : unit.length - 20 = batch.length * (2 * (s.cfg.bitDepth.toNat / 8)) := by
        rw [List.length_append, hheader, Nat.add_sub_cancel_left, flatMap_sampleBytes_length]
      have hsize : 0 < 2 * (s.cfg.bitDepth.toNat / 8) := by omega
      rw [hunit, Nat.mul_div_cancel _ hsize, Nat.min_eq_left hreq]
    obtain rfl := Host.Outcome.next.inj (hexec.symm.trans (exec_rxUnit_of_data_accepted hs hd hport hnone hunitKind))
    refine ⟨_, rfl, ?_⟩
    have hranges (p : Sample) (hp : p ∈ batch) :
        laneInRange (8 * b) p.1 = true ∧ laneInRange (8 * b) p.2 = true := by
      have hlane := hlanes p hp
      rwa [State.laneOk, Bool.and_eq_true, State.depth, hbits] at hlane
    simp only [hcount]
    have hunit : unit = header ++ batch.flatMap (sampleBytes (8 * b)) := by rw [← hbits]
    rw [hbits, hunit]
    exact map_sampleAt_eq hb hheader hranges

end Sys2Proof.Machine

/-! SUPPORT. The proofs of the statements of 46_transport.md: how a unit is framed from the bytes at hand (R334), and that
the receive step and the poll read neither port nor answer, nor the bytes that come later (R335). -/

namespace Sys2Proof.Machine

open Sys2Proof

/-- Settles O59: each command is admitted and writes the one field. -/
theorem linkCommandsWriteTheLink : Obligations.LinkCommandsWriteTheLink := by
  intro s hs hd ht
  have hcheck := check_sinkTcp hs hd ht
  refine ⟨?_, ?_⟩
  · rw [exec, execTxLinkDown, admit_of_check hcheck]
    rfl
  · rw [exec, execTxLinkUp, admit_of_check hcheck]
    rfl

/-! ### What a receive step does not read -/

/-- The state with more bytes at the end of the queue, another operand port and another answer. -/
def State.later (s : State) (chunk : List Byte) (port : List Operand) (r : Option Response) (evs : List Event) : State :=
  { s with tcpIn := s.tcpIn ++ chunk, port := port, response := r, events := evs }

theorem later_nil (s : State) (port : List Operand) (r : Option Response) (evs : List Event) :
    s.later [] port r evs = s.overlay port r evs := by
  rw [State.later, List.append_nil, State.overlay]

/-- A step's outcome with its state changed. -/
def RxStep.mapState (f : State → State) (r : RxStep) : RxStep := ⟨f r.st, r.events, r.result⟩

section
variable (s : State) (chunk : List Byte) (port : List Operand) (r : Option Response) (evs : List Event)

theorem rxAccept_later (u : List Byte) (h : PacketHeader) (req : Nat) (pre : List Event) :
    rxAccept (s.later chunk port r evs) u h req pre =
      (rxAccept s u h req pre).mapState (State.later · chunk port r evs) := rfl

theorem ctxAccept_later (c : Context) (len : Nat) (pre : List Event) :
    ctxAccept (s.later chunk port r evs) c len pre =
      (ctxAccept s c len pre).mapState (State.later · chunk port r evs) := by
  unfold ctxAccept
  cases c.record.std with
  | none => rfl
  | some f =>
    by_cases hfrac : f.tsFrac.toNat < picosPerSecond
    · simp only [if_pos hfrac]
      rfl
    · simp only [if_neg hfrac]
      rfl

theorem mismatch_later (c : ProtoCode) (forwardable : Bool) (len : Nat) {k k' : List Event → RxStep}
    (hk : ∀ pre, k' pre = (k pre).mapState (State.later · chunk port r evs)) :
    mismatch (s.later chunk port r evs) c forwardable len k' =
      (mismatch s c forwardable len k).mapState (State.later · chunk port r evs) := by
  have hpolicy : (s.later chunk port r evs).policy = s.policy := rfl
  unfold mismatch
  rw [hpolicy]
  cases s.policy with
  | fail | ignore | warnAndWithhold => rfl
  | warnAndForward =>
    cases forwardable with
    | false => rfl
    | true => exact hk _

theorem rxData_later (u : List Byte) (h : PacketHeader) (req : Nat) :
    rxData (s.later chunk port r evs) u h req = (rxData s u h req).mapState (State.later · chunk port r evs) := by
  have hsid : ((s.later chunk port r evs).sidCheck && h.streamId != some (s.later chunk port r evs).cfg.expectSid) =
      (s.sidCheck && h.streamId != some s.cfg.expectSid) := rfl
  unfold rxData
  rw [hsid]
  by_cases hlen : u.length < 20
  · rw [if_pos hlen, if_pos hlen]
    exact mismatch_later _ _ _ _ _ _ _ _ fun _ => rfl
  rw [if_neg hlen, if_neg hlen]
  by_cases hbad : (s.sidCheck && h.streamId != some s.cfg.expectSid) = true
  · rw [if_pos hbad, if_pos hbad]
    exact mismatch_later _ _ _ _ _ _ _ _ fun _ => rxAccept_later _ _ _ _ _ _ _ _ _
  · rw [if_neg hbad, if_neg hbad]
    exact rxAccept_later _ _ _ _ _ _ _ _ _

theorem rxContext_later (u : List Byte) :
    rxContext (s.later chunk port r evs) u = (rxContext s u).mapState (State.later · chunk port r evs) := by
  have hdepth : (s.later chunk port r evs).depth = s.depth := rfl
  cases hc : ctxDecode u with
  | none =>
    rw [rxContext, rxContext, hc]
    exact mismatch_later _ _ _ _ _ _ _ _ fun _ => rfl
  | some c =>
    rw [rxContext_of_some hc, rxContext_of_some hc, hdepth]
    by_cases hbad : c.record.bitDepth ≠ s.depth
    · rw [if_pos hbad, if_pos hbad]
      exact mismatch_later _ _ _ _ _ _ _ _ fun _ => ctxAccept_later _ _ _ _ _ _ _ _
    · rw [if_neg hbad, if_neg hbad]
      exact ctxAccept_later _ _ _ _ _ _ _ _

theorem rxStep_later (u : List Byte) (req : Nat) :
    rxStep (s.later chunk port r evs) u req = (rxStep s u req).mapState (State.later · chunk port r evs) := by
  by_cases hshort : u.length < 4
  · rw [rxStep_of_short hshort, rxStep_of_short hshort]
    exact mismatch_later _ _ _ _ _ _ _ _ fun _ => rfl
  by_cases hkind : unitKind u = 1
  · rw [rxStep_of_data hshort hkind, rxStep_of_data hshort hkind, rxData_later]
  · rw [rxStep_of_context hshort hkind, rxStep_of_context hshort hkind, rxContext_later]

theorem rxStep_overlay (u : List Byte) (req : Nat) :
    rxStep (s.overlay port r evs) u req = (rxStep s u req).mapState (State.overlay · port r evs) := by
  simp only [← later_nil, rxStep_later]

end

/-- Answering overwrites everything an overlay changes but the port. -/
theorem respond_mapState_overlay (x : RxStep) (port : List Operand) (r : Option Response) (evs : List Event) :
    (x.mapState (State.overlay · port r evs)).respond = { x.respond with port := port } := by
  obtain ⟨st, es, result⟩ := x
  cases result <;> rfl

theorem rxStep_port (s : State) (u : List Byte) (req : Nat) : (rxStep s u req).st.port = s.port := by
  obtain ⟨_, _, _, _, _, _, h⟩ := (rxStep_frame s u req).same
  rw [h]

theorem respond_port (x : RxStep) : x.respond.port = x.st.port := by
  obtain ⟨st, es, result⟩ := x
  cases result <;> rfl

/-- Settles O58: both commands answer with the same receive step, from states that differ in the port. -/
theorem udpIsRxUnitOfTheCutDatagram : Obligations.UdpIsRxUnitOfTheCutDatagram := by
  intro s dg req hs hd ht hport
  refine ⟨_, exec_rxUnit_of_port (s := State.overlay s _ s.response s.events) hs hd rfl, ?_⟩
  rw [exec_udpRxDatagram_of_port hs hd hport ht, rxStep_overlay, respond_mapState_overlay]
  have hkept := (respond_port (rxStep s (dg.take s.rxBufBytes) req.toNat)).trans (rxStep_port s _ _)
  rw [← hkept]

end Sys2Proof.Machine

/-! SUPPORT. The proofs of the statements of 46_transport.md about TCP_RX_POLL (R334, R335): what the framing takes from the
bytes at hand, one round of the poll, and how the stream may be cut. -/

namespace Sys2Proof.Machine

open Sys2Proof

/-! ### Framing from the bytes at hand -/

/-- The bytes of the connection at hand, in order (R334). -/
def State.heldBytes (s : State) : List Byte := s.tcpBuf ++ s.tcpIn

/-- Filling a buffer that has room cuts the bytes at hand. -/
theorem fillTcp_eq {s : State} {n : Nat} (h : s.tcpBuf.length ≤ n) :
    s.fillTcp n = { s with tcpBuf := s.heldBytes.take n, tcpIn := s.heldBytes.drop n } := by
  have hin : s.tcpIn.drop (n - s.tcpBuf.length) = s.heldBytes.drop n := by
    rw [State.heldBytes, List.drop_append, List.drop_of_length_le h, List.nil_append]
  rw [← hin, State.heldBytes, ← fillTcp_tcpBuf h]
  rfl

theorem frameBody_of_unfilled {s : State} (h : (s.fillTcp s.tcpNeed.toNat).tcpBuf.length < s.tcpNeed.toNat) :
    frameBody s = .short (s.fillTcp s.tcpNeed.toNat) := if_pos h

theorem frameBody_of_filled {s : State} (h : ¬ (s.fillTcp s.tcpNeed.toNat).tcpBuf.length < s.tcpNeed.toNat) :
    frameBody s = .whole
      { s.fillTcp s.tcpNeed.toNat with tcpBuf := [], tcpNeed := 0, tcpPhase := .header }
      (s.fillTcp s.tcpNeed.toNat).tcpBuf := if_neg h

theorem frameBody_of_lt {s : State} (h : s.heldBytes.length < s.tcpNeed.toNat) :
    frameBody s = .short { s with tcpBuf := s.heldBytes, tcpIn := [] } := by
  have hroom : s.tcpBuf.length ≤ s.tcpNeed.toNat := by
    rw [State.heldBytes, List.length_append] at h
    omega
  rw [frameBody, fillTcp_eq hroom, List.take_of_length_le h.le, List.drop_of_length_le h.le]
  exact if_pos h

theorem frameBody_of_le {s : State} (hroom : s.tcpBuf.length ≤ s.tcpNeed.toNat)
    (h : s.tcpNeed.toNat ≤ s.heldBytes.length) :
    frameBody s = .whole
      { s with tcpBuf := [], tcpIn := s.heldBytes.drop s.tcpNeed.toNat, tcpNeed := 0, tcpPhase := .header }
      (s.heldBytes.take s.tcpNeed.toNat) := by
  have hlen : ¬ (s.heldBytes.take s.tcpNeed.toNat).length < s.tcpNeed.toNat := by
    rw [List.length_take_of_le h]
    exact Nat.lt_irrefl _
  rw [frameBody, fillTcp_eq hroom]
  exact if_neg hlen

/-- The framing once the header word may be held: the second half of HEADER (R334). -/
def frameWord (t : State) : Framed :=
  if t.tcpBuf.length < 4 then .short t
  else if beRead t.tcpBuf 2 2 = 0 then .badCount t
  else frameBody { t with tcpNeed := BitVec.ofNat 32 (4 * beRead t.tcpBuf 2 2), tcpPhase := .body }

theorem frameWord_of_short {t : State} (h : t.tcpBuf.length < 4) : frameWord t = .short t := if_pos h

theorem frameWord_of_zero {t : State} (h : ¬ t.tcpBuf.length < 4) (hcount : beRead t.tcpBuf 2 2 = 0) :
    frameWord t = .badCount t := (if_neg h).trans (if_pos hcount)

theorem frameWord_of_count {t : State} (h : ¬ t.tcpBuf.length < 4) (hcount : ¬ beRead t.tcpBuf 2 2 = 0) :
    frameWord t =
      frameBody { t with tcpNeed := BitVec.ofNat 32 (4 * beRead t.tcpBuf 2 2), tcpPhase := .body } :=
  (if_neg h).trans (if_neg hcount)

theorem frameUnit_of_header {s : State} (h : s.tcpPhase = .header) : frameUnit s = frameWord (s.fillTcp 4) := if_pos h

theorem frameUnit_of_not_header {s : State} (h : s.tcpPhase ≠ .header) : frameUnit s = frameBody s := if_neg h

theorem frameUnit_of_short_word {s : State} (hp : s.tcpPhase = .header) (h : s.heldBytes.length < 4) :
    frameUnit s = .short { s with tcpBuf := s.heldBytes, tcpIn := [] } := by
  have hroom : s.tcpBuf.length ≤ 4 := by
    rw [State.heldBytes, List.length_append] at h
    omega
  rw [frameUnit_of_header hp, fillTcp_eq hroom, List.take_of_length_le h.le, List.drop_of_length_le h.le]
  exact if_pos h

/-- The need a header word sets: 4 bytes for each word of its count (R144). -/
theorem need_toNat (buf : List Byte) : (BitVec.ofNat 32 (4 * beRead buf 2 2)).toNat = 4 * beRead buf 2 2 := by
  have hlt : beRead buf 2 2 < 2 ^ 16 := beRead_lt buf 2 2
  rw [BitVec.toNat_ofNat]
  omega

section
variable {s : State} (hp : s.tcpPhase = .header) (hbuf : s.tcpBuf.length < 4) (hheld : 4 ≤ s.heldBytes.length)
  (hwords : beRead s.heldBytes 2 2 ≠ 0)

include hp hbuf hheld hwords

/-- With a header word of a count at hand the framing goes on as BODY with its need. -/
theorem frameUnit_of_word :
    frameUnit s = frameBody
      { s with
        tcpBuf := s.heldBytes.take 4
        tcpIn := s.heldBytes.drop 4
        tcpNeed := BitVec.ofNat 32 (4 * beRead s.heldBytes 2 2)
        tcpPhase := .body } := by
  have hlen : ¬ (s.heldBytes.take 4).length < 4 := by
    rw [List.length_take_of_le hheld]
    exact Nat.lt_irrefl _
  have hread : beRead (s.heldBytes.take 4) 2 2 = beRead s.heldBytes 2 2 := beRead_take (by decide) _
  rw [frameUnit_of_header hp, fillTcp_eq hbuf.le]
  refine (if_neg hlen).trans ?_
  simp only [hread]
  exact if_neg hwords

theorem frameUnit_of_short_unit (h : s.heldBytes.length < 4 * beRead s.heldBytes 2 2) :
    frameUnit s = .short
      { s with
        tcpBuf := s.heldBytes
        tcpIn := []
        tcpNeed := BitVec.ofNat 32 (4 * beRead s.heldBytes 2 2)
        tcpPhase := .body } := by
  rw [frameUnit_of_word hp hbuf hheld hwords, frameBody_of_lt]
  · simp only [State.heldBytes, List.take_append_drop]
  · rw [State.heldBytes, List.take_append_drop, need_toNat]
    exact h

/-- A whole unit is cut off the bytes at hand (R144, R334). -/
theorem frameUnit_of_whole_unit (h : 4 * beRead s.heldBytes 2 2 ≤ s.heldBytes.length) :
    frameUnit s = .whole
      { s with tcpBuf := [], tcpIn := s.heldBytes.drop (4 * beRead s.heldBytes 2 2), tcpNeed := 0 }
      (s.heldBytes.take (4 * beRead s.heldBytes 2 2)) := by
  have hroom : (s.heldBytes.take 4).length ≤ 4 * beRead s.heldBytes 2 2 := by
    rw [List.length_take_of_le hheld]
    omega
  rw [frameUnit_of_word hp hbuf hheld hwords, frameBody_of_le]
  · simp only [State.heldBytes, List.take_append_drop, need_toNat, hp]
  · rw [need_toNat]
    exact hroom
  · simp only [State.heldBytes, List.take_append_drop, need_toNat]
    exact h

end

/-! ### One round of the poll -/

theorem tcpPoll_of_connected {s : State} (h : s.tcpPhase ≠ .disconnected) (req : Nat) :
    s.tcpPoll req = pollLoop (s.tcpHeld + 2) req [] s := if_neg h

section
variable {s t : State} {u : List Byte} (fuel req : Nat) (evs : List Event)

theorem pollLoop_of_short (h : frameUnit s = .short t) : pollLoop (fuel + 1) req evs s = t.reply .noPacket evs := by
  rw [pollLoop, h]

theorem pollLoop_of_badCount (h : frameUnit s = .badCount t) :
    pollLoop (fuel + 1) req evs s = (t.clearTcp .disconnected).reply .noPacket (evs ++ [.warn .tcpFraming 4]) := by
  rw [pollLoop, h]

theorem pollLoop_of_fatal (h : frameUnit s = .whole t u) {c : FatalCode} (hr : (rxStep t u req).result = .fatal c) :
    pollLoop (fuel + 1) req evs s = (rxStep t u req).st.raiseFatal c (evs ++ (rxStep t u req).events) := by
  rw [pollLoop, h]
  simp only [hr]

theorem pollLoop_of_data (h : frameUnit s = .whole t u) {d : RxData} (hr : (rxStep t u req).result = .done (some d)) :
    pollLoop (fuel + 1) req evs s =
      (rxStep t u req).st.reply (.ok (.received (some d))) (evs ++ (rxStep t u req).events) := by
  rw [pollLoop, h]
  simp only [hr]

theorem pollLoop_of_noData (h : frameUnit s = .whole t u) (hr : (rxStep t u req).result = .done none) :
    pollLoop (fuel + 1) req evs s = pollLoop fuel req (evs ++ (rxStep t u req).events) (rxStep t u req).st := by
  rw [pollLoop, h]
  simp only [hr]

/-- A unit whose step is fatal or yields data ends the poll as it ends RX_UNIT. -/
theorem pollLoop_eq_respond (h : frameUnit s = .whole t u) (hr : (rxStep t u req).result ≠ .done none) :
    pollLoop (fuel + 1) req [] s = (rxStep t u req).respond := by
  rw [RxStep.respond]
  match hres : (rxStep t u req).result with
  | .fatal c => rw [pollLoop_of_fatal fuel req [] h hres, List.nil_append]
  | .done (some d) => rw [pollLoop_of_data fuel req [] h hres, List.nil_append]
  | .done none => exact absurd hres hr

end

section
variable {s : State} {req : Word32} (hs : s.phase = .run) (hd : s.isSource = true) (ht : s.isTcp = true)
  (hport : s.port = [.word (req.setWidth 64)])

include hs hd ht hport

theorem exec_tcpRxPoll_of_connected (hc : s.tcpPhase ≠ .disconnected) :
    exec .tcpRxPoll s = .next (pollLoop (s.tcpHeld + 2) req.toNat [] s) := by
  rw [exec_tcpRxPoll_of_port hs hd ht hport, tcpPoll_of_connected hc]

theorem exec_tcpRxPoll_of_short (hc : s.tcpPhase ≠ .disconnected) {t : State} (h : frameUnit s = .short t) :
    exec .tcpRxPoll s = .next (t.answered .noPacket []) := by
  rw [exec_tcpRxPoll_of_connected hs hd ht hport hc, pollLoop_of_short _ _ _ h]
  rfl

end

/-- Settles O53: the framing ends short, with every byte at hand in the buffer. -/
theorem pollWithoutAWholeUnitKeepsTheBytes : Obligations.PollWithoutAWholeUnitKeepsTheBytes := by
  intro s req hs hd ht hport held words
  have hshort {t : State} (hc : s.tcpPhase ≠ .disconnected) (h : frameUnit s = .short t) :
      exec .tcpRxPoll s = .next (t.answered .noPacket []) := exec_tcpRxPoll_of_short hs hd ht hport hc h
  have hheader (h : s.tcpPhase = .header) : s.tcpPhase ≠ .disconnected := by
    rw [h]
    decide
  refine ⟨fun hp => ?_, fun hp hlen => ?_, fun hp hbuf hheld hlen => ?_, fun hp hlen => ?_⟩
  · rw [exec_tcpRxPoll_of_port hs hd ht hport, State.tcpPoll, if_pos hp]
    rfl
  · exact hshort (hheader hp) (frameUnit_of_short_word hp hlen)
  · have hwords : words ≠ 0 := by omega
    exact hshort (hheader hp) (frameUnit_of_short_unit hp hbuf hheld hwords hlen)
  · have hne : s.tcpPhase ≠ .disconnected ∧ s.tcpPhase ≠ .header := by
      rw [hp]
      decide
    exact hshort hne.1 ((frameUnit_of_not_header hne.2).trans (frameBody_of_lt hlen))

/-- Settles O54: the one round of the poll frames the unit and accepts it. -/
theorem pollDecodesAFramedDataUnit : Obligations.PollDecodesAFramedDataUnit := by
  intro s req hs hd ht hport hp hbuf held words unit hheld hwords hwhole hnone hkind
  have hc : s.tcpPhase ≠ .disconnected := by
    rw [hp]
    decide
  have hframe := frameUnit_of_whole_unit hp hbuf hheld hwords hwhole
  have hstep := rxStep_of_data_accepted
    (s := { s with tcpBuf := [], tcpIn := held.drop (4 * words), tcpNeed := 0 }) hnone hkind req.toNat
  rw [exec_tcpRxPoll_of_connected hs hd ht hport hc, pollLoop_eq_respond _ _ hframe, ← rxAccept_respond, ← hstep]
  · rfl
  · exact fun hres => nomatch (congrArg RxStep.result hstep).symm.trans hres

/-! ### What a poll does not read -/

/-- A framing's outcome with its state changed. -/
def Framed.mapState (f : State → State) : Framed → Framed
  | .short t => .short (f t)
  | .badCount t => .badCount (f t)
  | .whole t u => .whole (f t) u

section
variable (port : List Operand) (r : Option Response) (evs : List Event)

theorem frameBody_overlay (s : State) :
    frameBody (s.overlay port r evs) = (frameBody s).mapState (State.overlay · port r evs) := by
  by_cases h : (s.fillTcp s.tcpNeed.toNat).tcpBuf.length < s.tcpNeed.toNat
  · rw [frameBody_of_unfilled h]
    exact frameBody_of_unfilled h
  · rw [frameBody_of_filled h]
    exact frameBody_of_filled h

theorem frameWord_overlay (s : State) :
    frameWord (s.overlay port r evs) = (frameWord s).mapState (State.overlay · port r evs) := by
  by_cases hlen : s.tcpBuf.length < 4
  · rw [frameWord_of_short hlen]
    exact frameWord_of_short hlen
  by_cases hcount : beRead s.tcpBuf 2 2 = 0
  · rw [frameWord_of_zero hlen hcount]
    exact frameWord_of_zero hlen hcount
  · rw [frameWord_of_count hlen hcount, ← frameBody_overlay]
    exact frameWord_of_count hlen hcount

theorem frameUnit_overlay (s : State) :
    frameUnit (s.overlay port r evs) = (frameUnit s).mapState (State.overlay · port r evs) := by
  by_cases hp : s.tcpPhase = .header
  · rw [frameUnit_of_header hp, ← frameWord_overlay]
    exact frameUnit_of_header hp
  · rw [frameUnit_of_not_header hp, ← frameBody_overlay]
    exact frameUnit_of_not_header hp

end

/-- A poll overwrites the answer it starts with. -/
theorem pollLoop_overlay (fuel req : Nat) (evs : List Event) (s : State) (port : List Operand)
    (r r' : Option Response) (es es' : List Event) :
    pollLoop fuel req evs (s.overlay port r es) = pollLoop fuel req evs (s.overlay port r' es') := by
  induction fuel generalizing s evs with
  | zero => rfl
  | succ fuel ih =>
    have h := frameUnit_overlay port r es s
    have h' := frameUnit_overlay port r' es' s
    cases hf : frameUnit s with
    | short t =>
      rw [hf] at h h'
      rw [pollLoop_of_short _ _ _ h, pollLoop_of_short _ _ _ h']
      rfl
    | badCount t =>
      rw [hf] at h h'
      rw [pollLoop_of_badCount _ _ _ h, pollLoop_of_badCount _ _ _ h']
      rfl
    | whole t u =>
      rw [hf] at h h'
      have hstep := rxStep_overlay t port r es u req
      have hstep' := rxStep_overlay t port r' es' u req
      have hsame := congrArg RxStep.result hstep
      have hsame' := congrArg RxStep.result hstep'
      match hres : (rxStep t u req).result with
      | .fatal c =>
        rw [pollLoop_of_fatal _ _ _ h (hsame.trans hres), pollLoop_of_fatal _ _ _ h' (hsame'.trans hres), hstep,
          hstep']
        rfl
      | .done (some d) =>
        rw [pollLoop_of_data _ _ _ h (hsame.trans hres), pollLoop_of_data _ _ _ h' (hsame'.trans hres), hstep, hstep']
        rfl
      | .done none =>
        rw [pollLoop_of_noData _ _ _ h (hsame.trans hres), pollLoop_of_noData _ _ _ h' (hsame'.trans hres), hstep,
          hstep']
        exact ih _ _

/-- A unit framed from HEADER leaves the receive step in HEADER again, with fewer bytes held (R334). -/
theorem rxStep_of_frameUnit {s t : State} {u : List Byte} (h : frameUnit s = .whole t u) (hp : s.tcpPhase = .header)
    (req : Nat) :
    (rxStep t u req).st.phase = s.phase ∧ (rxStep t u req).st.cfg = s.cfg ∧ (rxStep t u req).st.tcpPhase = .header ∧
      (rxStep t u req).st.tcpHeld < s.tcpHeld := by
  obtain ⟨hheader, -, -, hheld, hfour⟩ := frameUnit_whole h
  have hlen := hfour hp
  obtain ⟨_, _, _, _, hframe⟩ := frameUnit_frame s
  rw [h] at hframe
  obtain ⟨_, _, _, _, _, _, hst⟩ := (rxStep_frame t u req).same
  have hless : t.tcpHeld < s.tcpHeld := by omega
  have hphase := congrArg State.phase hframe
  have hcfg := congrArg State.cfg hframe
  rw [hst]
  exact ⟨hphase, hcfg, hheader, hless⟩

theorem respond_of_noData {x : RxStep} (h : x.result = .done none) :
    x.respond = x.st.reply (.ok (.received none)) x.events := by
  rw [RxStep.respond, h]

/-- What RX_UNIT's answer says of the step: an answer without data is that of a unit that yields none. -/
theorem respond_response_eq_noData_iff (x : RxStep) :
    x.respond.response = some (.ok (.received none)) ↔ x.result = .done none := by
  obtain ⟨st, es, result⟩ := x
  match result with
  | .fatal c => exact ⟨nofun, nofun⟩
  | .done (some d) => exact ⟨nofun, nofun⟩
  | .done none => exact ⟨fun _ => rfl, fun _ => rfl⟩

/-- Settles O55: the poll's first round is the receive step of RX_UNIT, and after a unit without data the rest of the poll
is a poll from there. -/
theorem pollGoesOnPastUnitsWithoutData : Obligations.PollGoesOnPastUnitsWithoutData := by
  intro s t req hs hd ht hport hp hbuf held words unit hheld hwords hwhole hexec
  have hc : s.tcpPhase ≠ .disconnected := by
    rw [hp]
    decide
  have hpoll := exec_tcpRxPoll_of_connected hs hd ht hport hc
  let cut : State := { s with tcpBuf := [], tcpIn := held.drop (4 * words), tcpNeed := 0 }
  have hframe : frameUnit s = .whole cut unit := frameUnit_of_whole_unit hp hbuf hheld hwords hwhole
  let x := rxStep cut unit req.toNat
  -- RX_UNIT's answer is that of the poll's first receive step, but for the port.
  have hrx := exec_rxUnit_of_port (s := cut.overlay [.bytes unit, .word (req.setWidth 64)] s.response s.events) hs hd rfl
  rw [rxStep_overlay, respond_mapState_overlay] at hrx
  obtain rfl := Host.Outcome.next.inj (hexec.symm.trans hrx)
  have hxport : x.st.port = s.port := rxStep_port cut unit req.toNat
  have hback : { x.respond with port := s.port } = x.respond := by rw [← hxport, ← respond_port x]
  have hends (hdata : x.result ≠ .done none) : exec .tcpRxPoll s = .next { x.respond with port := s.port } := by
    rw [hpoll, pollLoop_eq_respond _ _ hframe hdata]
    exact congrArg Host.Outcome.next hback.symm
  refine ⟨fun ⟨c, hfatal⟩ => hends fun hnone => ?_, fun ⟨d, hdata⟩ => hends fun hnone => ?_, fun hnone => ?_⟩
  · rw [← respond_response_eq_noData_iff] at hnone
    exact nomatch hnone.symm.trans hfatal
  · rw [← respond_response_eq_noData_iff] at hnone
    exact nomatch hnone.symm.trans hdata
  · have hdone : x.result = .done none := (respond_response_eq_noData_iff x).mp hnone
    have hreply : x.respond = x.st.overlay x.st.port (some (.ok (.received none))) x.events := respond_of_noData hdone
    obtain ⟨hphase, hcfg, htcp, hless⟩ := rxStep_of_frameUnit hframe hp req.toNat
    have hnext : exec .tcpRxPoll x.respond = .next (pollLoop (x.st.tcpHeld + 2) req.toNat [] x.st) := by
      have hadmitted := exec_tcpRxPoll_of_connected
        (s := x.st.overlay x.st.port (some (.ok (.received none))) x.events) (hphase.trans hs)
        ((State.isSource_congr hcfg).trans hd) ((State.isTcp_congr hcfg).trans ht) (hxport.trans hport)
        (htcp.trans_ne (by decide))
      rw [hreply, hadmitted]
      exact congrArg Host.Outcome.next (pollLoop_overlay _ _ _ _ _ _ x.st.response _ x.st.events)
    refine ⟨_, (congrArg (exec .tcpRxPoll) hback).trans hnext, ?_⟩
    rw [hpoll, pollLoop_of_noData _ _ _ hframe hdone, List.nil_append, ← List.append_nil (rxStep _ _ _).events,
      pollLoop_events, pollLoop_fuel _ _ (x.st.tcpHeld + 2) _ _ htcp (Nat.lt_succ_of_lt hless)
        (Nat.lt_add_of_pos_right Nat.two_pos), hreply]
    rfl

end Sys2Proof.Machine

/-! SUPPORT. The proof of the statement of 46_transport.md about how the TCP stream is cut into chunks and polls (R335): what
a framing leaves, it finds again when more bytes have come. -/

namespace Sys2Proof.Machine

open Sys2Proof

/-! ### Chunks -/

/-- TCP_RX_BYTES answers OK only where it was admitted (R332). -/
theorem tcpRxBytes_of_ok {s t : State} (he : exec .tcpRxBytes s = .next t) (hok : t.response = some (.ok .unit)) :
    s.phase = .run ∧ s.isSource = true ∧ s.isTcp = true := by
  cases hcheck : Admission.check .sourceTcp s with
  | some c =>
    rw [exec_of_refusal (i := .tcpRxBytes) hcheck, Host.Outcome.next.injEq] at he
    subst he
    cases hok
  | none =>
    obtain ⟨hphase, hdirection⟩ := admitted_of_check hcheck
    rw [Admission.directionOk, Bool.and_eq_true] at hdirection
    exact ⟨beq_iff_eq.mp hphase, hdirection⟩

theorem exec_tcpRxBytes_of_connected {s : State} {chunk : List Byte} (hs : s.phase = .run) (hd : s.isSource = true)
    (ht : s.isTcp = true) (hc : s.tcpPhase ≠ .disconnected) (hport : s.port = [.bytes chunk]) :
    exec .tcpRxBytes s = .next (s.later chunk [.bytes chunk] (some (.ok .unit)) []) := by
  rw [exec_tcpRxBytes_of_port hs hd ht hport, if_neg hc, ← hport]
  rfl

/-! ### The framing and later bytes -/

section
variable (s : State) (chunk : List Byte) (port : List Operand) (r : Option Response) (evs : List Event)

/-- A buffer that can be filled from the queue is filled alike when more bytes have come. -/
theorem fillTcp_later_of_le {n : Nat} (h : n ≤ (s.fillTcp n).tcpBuf.length) :
    (s.later chunk port r evs).fillTcp n = (s.fillTcp n).later chunk port r evs := by
  have hin : n - s.tcpBuf.length ≤ s.tcpIn.length := by
    rw [State.fillTcp_tcpBuf, List.length_append, List.length_take] at h
    omega
  simp only [State.fillTcp, State.later, List.take_append_of_le_length hin, List.drop_append_of_le_length hin]

/-- Filling again after more bytes have come is filling once with them. -/
theorem fillTcp_fillTcp_later (n : Nat) :
    ((s.fillTcp n).later chunk port r evs).fillTcp n = (s.later chunk port r evs).fillTcp n := by
  by_cases hin : n - s.tcpBuf.length ≤ s.tcpIn.length
  · have hfull : n ≤ (s.fillTcp n).tcpBuf.length := by
      rw [State.fillTcp_tcpBuf, List.length_append, List.length_take]
      omega
    have hnone : n - (s.fillTcp n).tcpBuf.length = 0 := Nat.sub_eq_zero_of_le hfull
    rw [fillTcp_later_of_le s chunk port r evs hfull, State.fillTcp]
    simp only [State.later, hnone, List.take_zero, List.drop_zero, List.append_nil]
  · have htake : s.tcpIn.take (n - s.tcpBuf.length) = s.tcpIn := List.take_of_length_le (not_le.mp hin).le
    have hdrop : s.tcpIn.drop (n - s.tcpBuf.length) = [] := List.drop_of_length_le (not_le.mp hin).le
    simp only [State.fillTcp, State.later, htake, hdrop, List.nil_append, List.length_append, List.take_append,
      List.drop_append, List.append_assoc, Nat.sub_sub]

end

/-- What the framing of the state with later bytes is, by the framing without them: it goes on from where that one ended
short, and takes the unit that one took. -/
def Framed.Resumes (x : Framed) (later : State → State) (fed : Framed) : Prop :=
  match x with
  | .short t => frameUnit (later t) = fed
  | .badCount _ => True
  | .whole t u => fed = .whole (later t) u

section
variable (s : State) (chunk : List Byte) (port : List Operand) (r : Option Response) (evs : List Event)

theorem frameBody_congr {s t : State}
    (hfill : s.fillTcp s.tcpNeed.toNat = t.fillTcp t.tcpNeed.toNat) : frameBody s = frameBody t := by
  rw [frameBody, frameBody, hfill]

theorem frameBody_later (hp : s.tcpPhase ≠ .header) :
    (frameBody s).Resumes (State.later · chunk port r evs) (frameBody (s.later chunk port r evs)) := by
  by_cases h : (s.fillTcp s.tcpNeed.toNat).tcpBuf.length < s.tcpNeed.toNat
  · rw [frameBody_of_unfilled h]
    have hback : frameUnit ((s.fillTcp s.tcpNeed.toNat).later chunk port r evs) =
        frameBody ((s.fillTcp s.tcpNeed.toNat).later chunk port r evs) := frameUnit_of_not_header hp
    exact hback.trans (frameBody_congr (fillTcp_fillTcp_later s chunk port r evs _))
  · have hfill : (s.later chunk port r evs).fillTcp (s.later chunk port r evs).tcpNeed.toNat =
        (s.fillTcp s.tcpNeed.toNat).later chunk port r evs := fillTcp_later_of_le s chunk port r evs (not_lt.mp h)
    have hfed : ¬ ((s.later chunk port r evs).fillTcp (s.later chunk port r evs).tcpNeed.toNat).tcpBuf.length <
        (s.later chunk port r evs).tcpNeed.toNat := by
      rw [hfill]
      exact h
    rw [frameBody_of_filled h]
    refine (frameBody_of_filled hfed).trans ?_
    rw [hfill]
    rfl

/-- R335: later bytes change nothing of a unit that is whole without them, and a framing that ended short goes on as if it
had not begun. -/
theorem frameUnit_later :
    (frameUnit s).Resumes (State.later · chunk port r evs) (frameUnit (s.later chunk port r evs)) := by
  by_cases hp : s.tcpPhase = .header
  · have hfed : frameUnit (s.later chunk port r evs) = frameWord ((s.later chunk port r evs).fillTcp 4) :=
      frameUnit_of_header hp
    rw [frameUnit_of_header hp, hfed]
    by_cases hlen : (s.fillTcp 4).tcpBuf.length < 4
    · rw [frameWord_of_short hlen, ← fillTcp_fillTcp_later]
      exact frameUnit_of_header hp
    rw [fillTcp_later_of_le s chunk port r evs (not_lt.mp hlen)]
    by_cases hcount : beRead (s.fillTcp 4).tcpBuf 2 2 = 0
    · rw [frameWord_of_zero hlen hcount]
      trivial
    · have hword : frameWord ((s.fillTcp 4).later chunk port r evs) =
          frameBody (State.later { s.fillTcp 4 with
            tcpNeed := BitVec.ofNat 32 (4 * beRead (s.fillTcp 4).tcpBuf 2 2), tcpPhase := .body } chunk port r evs) :=
        frameWord_of_count hlen hcount
      rw [hword, frameWord_of_count hlen hcount]
      exact frameBody_later _ chunk port r evs nofun
  · have hfed : frameUnit (s.later chunk port r evs) = frameBody (s.later chunk port r evs) :=
      frameUnit_of_not_header hp
    rw [frameUnit_of_not_header hp, hfed]
    exact frameBody_later s chunk port r evs hp

end

/-! ### The poll and later bytes -/

theorem frameUnit_short_tcpHeld {s t : State} (h : frameUnit s = .short t) : t.tcpHeld = s.tcpHeld := by
  have hbody {x : State} (hx : frameBody x = .short t) : t.tcpHeld = x.tcpHeld := by
    by_cases hlen : (x.fillTcp x.tcpNeed.toNat).tcpBuf.length < x.tcpNeed.toNat
    · rw [frameBody_of_unfilled hlen, Framed.short.injEq] at hx
      rw [← hx, fillTcp_tcpHeld]
    · rw [frameBody_of_filled hlen] at hx
      cases hx
  by_cases hp : s.tcpPhase = .header
  · rw [frameUnit_of_header hp] at h
    by_cases hlen : (s.fillTcp 4).tcpBuf.length < 4
    · rw [frameWord_of_short hlen, Framed.short.injEq] at h
      rw [← h, fillTcp_tcpHeld]
    by_cases hcount : beRead (s.fillTcp 4).tcpBuf 2 2 = 0
    · rw [frameWord_of_zero hlen hcount] at h
      cases h
    · rw [frameWord_of_count hlen hcount] at h
      exact (hbody h).trans (fillTcp_tcpHeld s 4)
  · rw [frameUnit_of_not_header hp] at h
    exact hbody h

theorem later_tcpHeld (s : State) (chunk : List Byte) (port : List Operand) (r : Option Response) (evs : List Event) :
    (s.later chunk port r evs).tcpHeld = s.tcpHeld + chunk.length := by
  rw [State.tcpHeld, State.tcpHeld, State.later, List.length_append, Nat.add_assoc]

theorem pollLoop_congr {s t : State} (h : frameUnit s = frameUnit t) (fuel req : Nat) (evs : List Event) :
    pollLoop (fuel + 1) req evs s = pollLoop (fuel + 1) req evs t := by
  rw [pollLoop, pollLoop, h]

/-- A poll that finds no packet stays in its phase: only a fatal error leaves it (R334, R384). -/
theorem pollLoop_phase {fuel req : Nat} {evs : List Event} {s : State}
    (hnone : (pollLoop fuel req evs s).response = some .noPacket) : (pollLoop fuel req evs s).phase = s.phase := by
  refine pollLoop_elim (P := fun t => t.response = some .noPacket → t.phase = s.phase) (Q := fun t => t.phase = s.phase)
    (R := fun t => t.phase = s.phase) (fun x hx => ?_) (fun _ h => h) (fun _ _ _ h _ => h) (fun _ _ _ _ => nofun)
    fuel evs s rfl hnone
  obtain ⟨_, _, _, _, hframe⟩ := frameUnit_frame x
  have hphase := (congrArg State.phase hframe).trans hx
  cases hf : frameUnit x with
  | short t | badCount t =>
    rw [hf] at hphase
    exact hphase
  | whole t u =>
    rw [hf] at hphase
    obtain ⟨_, _, _, _, _, _, hst⟩ := (rxStep_frame t u req).same
    exact (congrArg State.phase hst).trans hphase

/-- A poll that found no packet and kept its client may be left out when more bytes have come, but for its events (R335). -/
theorem pollLoop_later {fuel req : Nat} {evs : List Event} {s t : State} (hrun : pollLoop fuel req evs s = t)
    (hfuel : s.tcpHeld + 1 < fuel ∨ s.tcpPhase = .header ∧ s.tcpHeld < fuel) (hnone : t.response = some .noPacket)
    (hkept : t.tcpPhase ≠ .disconnected) (chunk : List Byte) (port : List Operand) (r : Option Response)
    (es : List Event) {g : Nat} (hg : s.tcpHeld + chunk.length + 1 < g) :
    pollLoop g req evs (s.later chunk port r es) = pollLoop g req t.events (t.later chunk port r es) ∧
      t.tcpHeld ≤ s.tcpHeld := by
  induction fuel generalizing evs s with
  | zero => omega
  | succ fuel ih =>
    obtain ⟨m, rfl⟩ : ∃ m, g = m + 1 := ⟨g - 1, by omega⟩
    have hresumes := frameUnit_later s chunk port r es
    cases hf : frameUnit s with
    | short u =>
      rw [hf] at hresumes
      rw [pollLoop_of_short _ _ _ hf] at hrun
      subst hrun
      have hsame : frameUnit (u.later chunk port r es) = frameUnit (s.later chunk port r es) := hresumes
      exact ⟨pollLoop_congr hsame.symm _ _ _, (frameUnit_short_tcpHeld hf).le⟩
    | badCount u =>
      rw [pollLoop_of_badCount _ _ _ hf] at hrun
      subst hrun
      exact absurd rfl hkept
    | whole u unit =>
      rw [hf] at hresumes
      have hfed : frameUnit (s.later chunk port r es) = .whole (u.later chunk port r es) unit := hresumes
      have hstep := rxStep_later u chunk port r es unit req
      have hsame := congrArg RxStep.result hstep
      match hres : (rxStep u unit req).result with
      | .fatal c =>
        rw [pollLoop_of_fatal _ _ _ hf hres] at hrun
        subst hrun
        cases hnone
      | .done (some d) =>
        rw [pollLoop_of_data _ _ _ hf hres] at hrun
        subst hrun
        cases hnone
      | .done none =>
        rw [pollLoop_of_noData _ _ _ hf hres] at hrun
        rw [pollLoop_of_noData _ _ _ hfed (hsame.trans hres), hstep]
        obtain ⟨hheader, -, -, hheld, hfour⟩ := frameUnit_whole hf
        obtain ⟨_, _, _, _, _, _, hst⟩ := (rxStep_frame u unit req).same
        have hstHeader : (rxStep u unit req).st.tcpPhase = .header := by
          rw [hst]
          exact hheader
        have hstHeld : (rxStep u unit req).st.tcpHeld = u.tcpHeld := by
          rw [hst]
          rfl
        have hroom : u.tcpHeld < fuel := by
          rcases hfuel with h | ⟨hp, h⟩
          · omega
          · have := hfour hp
            omega
        obtain ⟨hpoll, hless⟩ := ih hrun (.inr ⟨hstHeader, hstHeld.trans_lt hroom⟩) (by omega)
        have hmore : pollLoop m req (evs ++ (rxStep u unit req).events) ((rxStep u unit req).st.later chunk port r es) =
            pollLoop (m + 1) req (evs ++ (rxStep u unit req).events) ((rxStep u unit req).st.later chunk port r es) := by
          refine pollLoop_fuel _ _ _ _ _ hstHeader ?_ ?_ <;> rw [later_tcpHeld] <;> omega
        exact ⟨hmore.trans hpoll, by omega⟩

/-- Settles O57: both chunks stand at the end of the queue in order, and a poll without a packet may be left out. -/
theorem tcpStreamSplitIsInvisible : Obligations.TcpStreamSplitIsInvisible := by
  refine ⟨fun s t u a b hc hexeca hoka hexecb => ?_,
    fun s t u v chunk req hs hd ht hc hexecs hnone hkept hexect hexecu => ?_⟩
  · obtain ⟨hs, hd, ht⟩ := tcpRxBytes_of_ok hexeca hoka
    obtain rfl := Host.Outcome.next.inj
      (hexeca.symm.trans (exec_tcpRxBytes_of_connected (s := s.overlay _ s.response s.events) hs hd ht hc rfl))
    obtain rfl := Host.Outcome.next.inj (hexecb.symm.trans
      (exec_tcpRxBytes_of_connected (s := s.later a [.bytes b] (some (.ok .unit)) []) hs hd ht hc rfl))
    refine ⟨_, exec_tcpRxBytes_of_connected (s := s.overlay _ s.response s.events) hs hd ht hc rfl, ?_⟩
    simp only [State.later, State.overlay, List.append_assoc]
  · let polled := s.overlay [.word (req.setWidth 64)] s.response s.events
    have hexecs' := exec_tcpRxPoll_of_connected (s := polled) hs hd ht rfl hc
    obtain rfl := Host.Outcome.next.inj (hexecs.symm.trans hexecs')
    generalize hrun : pollLoop (polled.tcpHeld + 2) req.toNat [] polled = t at *
    have hts : t.phase = .run := by
      rw [← hrun] at hnone ⊢
      exact (pollLoop_phase hnone).trans hs
    have hcfg : t.cfg = s.cfg := by
      rw [← hrun]
      exact (pollLoop_sameStream _ _ _ polled).1
    have htd : t.isSource = true := (State.isSource_congr hcfg).trans hd
    have htt : t.isTcp = true := (State.isTcp_congr hcfg).trans ht
    obtain rfl := Host.Outcome.next.inj (hexect.symm.trans
      (exec_tcpRxBytes_of_connected (s := t.overlay _ t.response t.events) hts htd htt hkept rfl))
    obtain rfl := Host.Outcome.next.inj (hexecu.symm.trans (exec_tcpRxPoll_of_connected
      (s := t.later chunk [.word (req.setWidth 64)] (some (.ok .unit)) []) hts htd htt rfl hkept))
    refine ⟨_, _, exec_tcpRxBytes_of_connected (s := s.overlay _ s.response s.events) hs hd ht hc rfl,
      exec_tcpRxPoll_of_connected (s := polled.later chunk [.word (req.setWidth 64)] (some (.ok .unit)) []) hs hd ht rfl
        hc, ?_⟩
    obtain ⟨hpoll, hless⟩ := pollLoop_later hrun (.inl (Nat.lt_succ_self _)) hnone hkept chunk
      [.word (req.setWidth 64)] (some (.ok .unit)) [] (Nat.lt_succ_self _)
    have hfuel : (t.later chunk [.word (req.setWidth 64)] (some (.ok .unit)) []).tcpHeld + 1 <
        polled.tcpHeld + chunk.length + 2 := by
      rw [later_tcpHeld]
      omega
    rw [later_tcpHeld, hpoll, ← List.append_nil t.events, pollLoop_events, tcpPoll_fuel _ _ _ _ hfuel, List.append_nil]

end Sys2Proof.Machine
